-- ==== Sys2Proof/Word.lean ====
section
/-! DEFINITION. The words of the block: an 8-bit dispatch word (30_encoding.md R80, formats AD and PD) and the 2-bit
command code of the `cmd` port (format CMD). Every other quantity of the spec is an integer (00_scope.md R11). -/

namespace Sys2Proof

/-- One entry of AMP_ROM or PH_ROM (R80: 8 bits). -/
abbrev DispatchWord := BitVec 8

/-- The value of the `cmd` port (R92: 2 bits). -/
abbrev CmdCode := BitVec 2

end Sys2Proof
end

