-- ==== Sys2Proof/Config.lean ====
section
/-! DEFINITION. The configuration record CFG (00_scope.md R9), the symbols and levels it speaks of, the ZONE data
(40_civil_time.md R111) and the one free value of the model. -/

namespace Sys2Proof

/-- Protocol selection (R2, R9). -/
inductive Proto where
  | A
  | B
deriving DecidableEq, Repr

/-- The two amplitude states (R51, R253). -/
inductive Level where
  | high
  | low
deriving DecidableEq, Repr

/-- One second's amplitude-coded value (R13). R81 reserves the fourth code, so there is no fourth constructor (U13). -/
inductive Symbol where
  | zero
  | one
  | mark
deriving DecidableEq, Repr

/-- TH[p] for one protocol p: the sample count of the leading amplitude state for each Symbol (R9, R252). -/
structure Thresholds where
  mark : Nat
  one  : Nat
  zero : Nat
deriving DecidableEq, Repr

/-- ZONE's two answers about one local civil day (R111, R119). -/
structure DstDay where
  dayStart : Bool
  dayEnd   : Bool
deriving DecidableEq, Repr

/-- ZONE as data (log entry 3): the UTC offset is a function of the instant given by its change points, the DST answers
a function of the local day number given by theirs. The value at a key is that of the last listed change at or below it.
Every pair of such functions on a bounded range has such a list; R112 (a), (c) and (e) hold by construction.
An offset is what the port z_utcoff carries: 32 bits, signed (10_state.md R34). -/
structure Zone where
  utcoff0 : BitVec 32
  utcoffChanges : List (Nat × BitVec 32)
  dst0 : DstDay
  dstChanges : List (Nat × DstDay)
deriving DecidableEq, Repr

/-- The forced fixed-offset zone: constant offset, both DST predicates false at all t (R112 (d)). -/
def Zone.fixed (utcoff : BitVec 32) : Zone :=
  { utcoff0 := utcoff, utcoffChanges := [], dst0 := ⟨false, false⟩, dstChanges := [] }

/-- CFG, one field per control register (00_scope.md R9, 10_state.md R29). Integers the spec does not call signed are
`Nat` (R11; log entry 22). -/
structure Config where
  proto : Proto
  /-- FS, samples per second. -/
  fs : Nat
  carrierNum : Nat
  carrierDen : Nat
  /-- TLEN, wavetable length in samples. -/
  tlen : Nat
  /-- SW, the width of a sample. -/
  sw : Nat
  amp : Nat
  lowRatioNum : Nat
  lowRatioDen : Nat
  thA : Thresholds
  thB : Thresholds
  leadA : Level
  leadB : Level
  pmOffset : Nat
  rot : Nat
  zone : Zone
  ampRomA : Vector DispatchWord 61
  ampRomB : Vector DispatchWord 61
  phRom : Vector DispatchWord 60
  /-- SYNC_SEQ words 0 and 1 (R54). -/
  syncSeq0 : BitVec 64
  syncSeq1 : BitVec 64
  /-- TIMING_WORD: entry j is bit j (R55). -/
  timingWord : BitVec 106
  /-- HH_OFFSET[1][1], [1][0] and [0][1], the OPEN ones; [0][0] is 1 (R212; log entry 20). -/
  hhOffset11 : Int
  hhOffset10 : Int
  hhOffset01 : Int
  /-- DSTLS: entry [j][e][s] is bit 4 j + 2 e + s (log entry 24). -/
  dstls : BitVec 8
  /-- DST_RULE: DST_RULE[i] is bit i. Only the default PH_ROM is made from it (R216; log entry 21). -/
  dstRule : BitVec 7
  /-- ECC_ODD (R208). -/
  eccOdd : Bool
  /-- TW, the width of T. -/
  tw : Nat
  /-- HIGH_TABLE (20_memory.md R50, R51). A model takes both wavetables as tables of CFG (R232, D27; log entry 13). -/
  highTable : List Int
  /-- LOW_TABLE (20_memory.md R50, R51). -/
  lowTable : List Int
deriving DecidableEq, Repr

/-- The free values of the model: what a register that the spec calls unspecified after a hardware reset edge holds
(70_reset_and_hazards.md R300, U3). It has no body, so no claim can rest on a value (log entry 7). -/
opaque Config.unspecified : Nat → Nat

end Sys2Proof
end

