-- ==== Sys2Proof/Syntax.lean ====
section
/-! DEFINITION. The instructions: one constructor per row of the opcode table, in its order (30_encoding.md R99), and the
pseudo-instructions of the listing notation (R98). -/

namespace Sys2Proof

/-- The three formats (R80). Which ROM or port a word is read from decides its format. -/
inductive Format where
  | ad
  | pd
  | cmd
deriving DecidableEq, Repr

/-- One instruction: an amplitude dispatch entry, a phase dispatch entry or a command of the `cmd` port (R14, R99).
LOAD's operands stand on the ports load_t and load_sis (R247), so it has none here. -/
inductive Instr where
  | mark
  | fzero
  | fone
  | min40
  | min20
  | min10
  | min8
  | min4
  | min2
  | min1
  | hr20
  | hr10
  | hr8
  | hr4
  | hr2
  | hr1
  | doy200
  | doy100
  | doy80
  | doy40
  | doy20
  | doy10
  | doy8
  | doy4
  | doy2
  | doy1
  | yr80
  | yr40
  | yr20
  | yr10
  | yr8
  | yr4
  | yr2
  | yr1
  | wd4
  | wd2
  | wd1
  | pa1
  | pa2
  | lyi
  | dste
  | dsts
  | pfix0
  | pfix1
  | ptime (n : Nat)
  | pecc (k : Nat)
  | pdst (j : Nat)
  | hold
  | tick
  | load
deriving DecidableEq, Repr

/-- The pseudo-instructions of a ROM listing (R98). -/
inductive Pseudo where
  /-- `P`: a position marker. -/
  | p
  /-- `RSV`: a reserved or unused bit position. -/
  | rsv
  /-- `NOLS`: the constant "no leap second pending". -/
  | nols
  /-- `DUT0`: a DUT1 magnitude position. -/
  | dut0
  /-- `DUTP`: a DUT1 sign position that is 1 for a non-negative DUT1. -/
  | dutp
  /-- `SYNC b`: one bit of a fixed phase pattern. -/
  | sync (b : Bool)
  /-- `R`: a reserved phase position. -/
  | r
  /-- `ADVANCE n`: the source's `advance(n_frames)`. -/
  | advance (n : Nat)
deriving DecidableEq, Repr

end Sys2Proof
end

