-- ==== Sys2Proof/WellFormed.lean ====
section
/-! DEFINITION. Which instructions exist: the operand ranges of the phase dispatch entries (30_encoding.md R88, R91). -/

namespace Sys2Proof

/-- R88: PTIME's index is 0 .. 25, PECC's 0 .. 4, PDST's 0 .. 1; no other instruction has an operand. -/
def Instr.wellFormed : Instr → Bool
  | .ptime n => decide (n ≤ 25)
  | .pecc k => decide (k ≤ 4)
  | .pdst j => decide (j ≤ 1)
  | .mark => true
  | .fzero => true
  | .fone => true
  | .min40 => true
  | .min20 => true
  | .min10 => true
  | .min8 => true
  | .min4 => true
  | .min2 => true
  | .min1 => true
  | .hr20 => true
  | .hr10 => true
  | .hr8 => true
  | .hr4 => true
  | .hr2 => true
  | .hr1 => true
  | .doy200 => true
  | .doy100 => true
  | .doy80 => true
  | .doy40 => true
  | .doy20 => true
  | .doy10 => true
  | .doy8 => true
  | .doy4 => true
  | .doy2 => true
  | .doy1 => true
  | .yr80 => true
  | .yr40 => true
  | .yr20 => true
  | .yr10 => true
  | .yr8 => true
  | .yr4 => true
  | .yr2 => true
  | .yr1 => true
  | .wd4 => true
  | .wd2 => true
  | .wd1 => true
  | .pa1 => true
  | .pa2 => true
  | .lyi => true
  | .dste => true
  | .dsts => true
  | .pfix0 => true
  | .pfix1 => true
  | .hold => true
  | .tick => true
  | .load => true

end Sys2Proof
end

