-- ==== Sys2Proof/Decode.lean ====
section
/-! DEFINITION. Decoding, total and rejecting by name, and encoding (30_encoding.md R80 to R95). -/

namespace Sys2Proof

/-- Why a word is reserved (R86, R91). -/
inductive DecodeError where
  /-- R86 (a): MARK, FZERO or FONE with func not 0. -/
  | fixedFuncNotZero
  /-- R86 (b): VAR with a function code R84 does not list. -/
  | unassignedFunction
  /-- R91: kind 0b101, 0b110 or 0b111. -/
  | reservedPhaseKind
  /-- R91: PFIX0 or PFIX1 with arg not 0. -/
  | fixedArgNotZero
  /-- R91: PTIME with arg above 25. -/
  | timeIndexRange
  /-- R91: PECC with arg above 4. -/
  | parityIndexRange
  /-- R91: PDST with arg above 1. -/
  | compositeIndexRange
  /-- A value of more than the 2 bits of the `cmd` port. -/
  | commandWidth
deriving DecidableEq, Repr

/-- w[7:6] of an AD word (R82). -/
def ampKind (w : DispatchWord) : BitVec 2 := w.extractLsb' 6 2

/-- w[5:0] of an AD word (R82, R85: an unsigned 6-bit integer). -/
def ampFunc (w : DispatchWord) : BitVec 6 := w.extractLsb' 0 6

/-- w[7:5] of a PD word (R88). -/
def phaseKind (w : DispatchWord) : BitVec 3 := w.extractLsb' 5 3

/-- w[4:0] of a PD word (R88, R90: an unsigned 5-bit integer). -/
def phaseArg (w : DispatchWord) : BitVec 5 := w.extractLsb' 0 5

/-- The function codes of VAR (R84); none for a code the table does not list. -/
def decodeFunction (code : Nat) : Option Instr :=
  match code with
  | 0x00 => some .min40
  | 0x01 => some .min20
  | 0x02 => some .min10
  | 0x03 => some .min8
  | 0x04 => some .min4
  | 0x05 => some .min2
  | 0x06 => some .min1
  | 0x08 => some .hr20
  | 0x09 => some .hr10
  | 0x0A => some .hr8
  | 0x0B => some .hr4
  | 0x0C => some .hr2
  | 0x0D => some .hr1
  | 0x10 => some .doy200
  | 0x11 => some .doy100
  | 0x12 => some .doy80
  | 0x13 => some .doy40
  | 0x14 => some .doy20
  | 0x15 => some .doy10
  | 0x16 => some .doy8
  | 0x17 => some .doy4
  | 0x18 => some .doy2
  | 0x19 => some .doy1
  | 0x20 => some .yr80
  | 0x21 => some .yr40
  | 0x22 => some .yr20
  | 0x23 => some .yr10
  | 0x24 => some .yr8
  | 0x25 => some .yr4
  | 0x26 => some .yr2
  | 0x27 => some .yr1
  | 0x28 => some .wd4
  | 0x29 => some .wd2
  | 0x2A => some .wd1
  | 0x30 => some .pa1
  | 0x31 => some .pa2
  | 0x38 => some .lyi
  | 0x39 => some .dste
  | 0x3A => some .dsts
  | _ => none

/-- An AD word (R82, R83, R86). -/
def decodeAmp (w : DispatchWord) : Except DecodeError Instr :=
  let fixed (i : Instr) : Except DecodeError Instr :=
    if ampFunc w = 0 then .ok i else .error .fixedFuncNotZero
  match (ampKind w).toNat with
  | 0 => fixed .mark
  | 1 => fixed .fzero
  | 2 => fixed .fone
  | _ =>
    match decodeFunction (ampFunc w).toNat with
    | some i => .ok i
    | none => .error .unassignedFunction

/-- A PD word (R88, R89, R91). -/
def decodePhase (w : DispatchWord) : Except DecodeError Instr :=
  let arg := (phaseArg w).toNat
  match (phaseKind w).toNat with
  | 0 => if arg = 0 then .ok .pfix0 else .error .fixedArgNotZero
  | 1 => if arg = 0 then .ok .pfix1 else .error .fixedArgNotZero
  | 2 => if arg ≤ 25 then .ok (.ptime arg) else .error .timeIndexRange
  | 3 => if arg ≤ 4 then .ok (.pecc arg) else .error .parityIndexRange
  | 4 => if arg ≤ 1 then .ok (.pdst arg) else .error .compositeIndexRange
  | _ => .error .reservedPhaseKind

/-- The `cmd` port (R92). R93: the block treats the reserved 0b11 as HOLD (U4; log entry 12). -/
def decodeCmd (c : CmdCode) : Instr :=
  match c.toNat with
  | 0 => .hold
  | 1 => .tick
  | 2 => .load
  | _ => .hold

/-- Decoding of any byte in any format (R80, R99). A command is the 2-bit value; a larger one is no command. -/
def decode (f : Format) (w : BitVec 8) : Except DecodeError Instr :=
  match f with
  | .ad => decodeAmp w
  | .pd => decodePhase w
  | .cmd => if w.toNat < 4 then .ok (decodeCmd (w.setWidth 2)) else .error .commandWidth

/-- The format of an instruction (the `format` of its row, R99). -/
def Instr.format : Instr → Format
  | .mark => .ad
  | .fzero => .ad
  | .fone => .ad
  | .min40 => .ad
  | .min20 => .ad
  | .min10 => .ad
  | .min8 => .ad
  | .min4 => .ad
  | .min2 => .ad
  | .min1 => .ad
  | .hr20 => .ad
  | .hr10 => .ad
  | .hr8 => .ad
  | .hr4 => .ad
  | .hr2 => .ad
  | .hr1 => .ad
  | .doy200 => .ad
  | .doy100 => .ad
  | .doy80 => .ad
  | .doy40 => .ad
  | .doy20 => .ad
  | .doy10 => .ad
  | .doy8 => .ad
  | .doy4 => .ad
  | .doy2 => .ad
  | .doy1 => .ad
  | .yr80 => .ad
  | .yr40 => .ad
  | .yr20 => .ad
  | .yr10 => .ad
  | .yr8 => .ad
  | .yr4 => .ad
  | .yr2 => .ad
  | .yr1 => .ad
  | .wd4 => .ad
  | .wd2 => .ad
  | .wd1 => .ad
  | .pa1 => .ad
  | .pa2 => .ad
  | .lyi => .ad
  | .dste => .ad
  | .dsts => .ad
  | .pfix0 => .pd
  | .pfix1 => .pd
  | .ptime _ => .pd
  | .pecc _ => .pd
  | .pdst _ => .pd
  | .hold => .cmd
  | .tick => .cmd
  | .load => .cmd

/-- The word of an instruction: R83 and R84 (AD), R89 (PD), R92 (CMD, the code in the low two bits). -/
def encode : Instr → BitVec 8
  | .mark => 0x00#8
  | .fzero => 0x40#8
  | .fone => 0x80#8
  | .min40 => 0xC0#8
  | .min20 => 0xC1#8
  | .min10 => 0xC2#8
  | .min8 => 0xC3#8
  | .min4 => 0xC4#8
  | .min2 => 0xC5#8
  | .min1 => 0xC6#8
  | .hr20 => 0xC8#8
  | .hr10 => 0xC9#8
  | .hr8 => 0xCA#8
  | .hr4 => 0xCB#8
  | .hr2 => 0xCC#8
  | .hr1 => 0xCD#8
  | .doy200 => 0xD0#8
  | .doy100 => 0xD1#8
  | .doy80 => 0xD2#8
  | .doy40 => 0xD3#8
  | .doy20 => 0xD4#8
  | .doy10 => 0xD5#8
  | .doy8 => 0xD6#8
  | .doy4 => 0xD7#8
  | .doy2 => 0xD8#8
  | .doy1 => 0xD9#8
  | .yr80 => 0xE0#8
  | .yr40 => 0xE1#8
  | .yr20 => 0xE2#8
  | .yr10 => 0xE3#8
  | .yr8 => 0xE4#8
  | .yr4 => 0xE5#8
  | .yr2 => 0xE6#8
  | .yr1 => 0xE7#8
  | .wd4 => 0xE8#8
  | .wd2 => 0xE9#8
  | .wd1 => 0xEA#8
  | .pa1 => 0xF0#8
  | .pa2 => 0xF1#8
  | .lyi => 0xF8#8
  | .dste => 0xF9#8
  | .dsts => 0xFA#8
  | .pfix0 => 0x00#8
  | .pfix1 => 0x20#8
  | .ptime n => 0x40#8 + BitVec.ofNat 8 n
  | .pecc k => 0x60#8 + BitVec.ofNat 8 k
  | .pdst j => 0x80#8 + BitVec.ofNat 8 j
  | .hold => 0x00#8
  | .tick => 0x01#8
  | .load => 0x02#8

/-- The CMD code of a word of `encode` (R92: two bits). -/
def commandBits (w : BitVec 8) : CmdCode := w.setWidth 2

/-- The format under which a value of the opcode table, given without its format, is read (log entry 10): two bits are
a command; eight bits are an AD word where AD defines one, else a PD word where PD defines one, else a command. -/
def tableFormat (nbits w : Nat) : Option Format :=
  let readable (f : Format) : Bool :=
    match decode f (BitVec.ofNat 8 w) with
    | .ok _ => true
    | .error _ => false
  if nbits ≤ 2 then if w < 4 then some .cmd else none
  else if 256 ≤ w then none
  else if readable .ad then some .ad
  else if readable .pd then some .pd
  else if readable .cmd then some .cmd
  else none

/-- The instruction the decoder reads from a row of the opcode table whose bits are `w`. -/
def decodeTableWord (nbits w : Nat) : Option Instr :=
  match tableFormat nbits w with
  | none => none
  | some f =>
    match decode f (BitVec.ofNat 8 w) with
    | .ok i => some i
    | .error _ => none

end Sys2Proof
end

