-- ==== Sys2Proof/Machine/CivilTime.lean ====
section
/-! DEFINITION. From the timestamp to the calendar fields (40_civil_time.md). -/

namespace Sys2Proof.Machine

/-- The value of the last listed change at or below `k`, or `d` where there is none (log entry 3). -/
def lookupChange {α : Type} (d : α) (l : List (Nat × α)) (k : Nat) : α :=
  l.foldl (fun acc e => if e.1 ≤ k then e.2 else acc) d

/-- ZONE.utcoff(t) (R111): what port z_utcoff carries, as an integer. -/
def zoneUtcoff (z : Zone) (t : Nat) : Int := (lookupChange z.utcoff0 z.utcoffChanges t).toInt

/-- ZONE's DST answers about the local day `d` (R111, R112 (c)). -/
def zoneDst (z : Zone) (d : Nat) : DstDay := lookupChange z.dst0 z.dstChanges d

/-- L = T + ZONE.utcoff(T) (R113); none where R112 (b) fails, L < 0. -/
def localSeconds (z : Zone) (t : Nat) : Option Nat :=
  let l := (t : Int) + zoneUtcoff z t
  if 0 ≤ l then some l.toNat else none

/-- SEC (R113). -/
def secOf (l : Nat) : Fin 60 := ⟨l % 60, Nat.mod_lt l (by decide)⟩

/-- MIN (R113). -/
def minOf (l : Nat) : Nat := l / 60 % 60

/-- HOUR (R113). -/
def hourOf (l : Nat) : Nat := l / 3600 % 24

/-- D, the local day number (R113). -/
def dayOf (l : Nat) : Nat := l / 86400

/-- WD, 0 = Sunday (R114). -/
def weekdayOf (d : Nat) : Nat := (d + 4) % 7

/-- leap(y) (R115). -/
def leap (y : Nat) : Bool := y % 4 == 0 && (y % 100 != 0 || y % 400 == 0)

/-- ylen(y) (R116). -/
def ylen (y : Nat) : Nat := if leap y then 366 else 365

/-- The sum of ylen over the `n` years from `y` on. -/
def daysFrom (y : Nat) : Nat → Nat
  | 0 => 0
  | n + 1 => daysFrom y n + ylen (y + n)

/-- Walks whole years off a day count: the year that holds day `d` counted from 1 January of `y`, and the day within it,
from 0; at most `fuel` years. -/
def walkYears : Nat → Nat → Nat → Nat × Nat
  | 0, y, d => (y, d)
  | fuel + 1, y, d => if d < ylen y then (y, d) else walkYears fuel (y + 1) (d - ylen y)

/-- The length of 400 Gregorian years in days. -/
def daysIn400Years : Nat := 146097

/-- Y and DOY of the day number `d` (R117), by whole cycles of 400 years and then at most 400 years (R306: the work does
not grow with T). -/
def yearAndDay (d : Nat) : Nat × Nat :=
  let r := walkYears 400 (1970 + 400 * (d / daysIn400Years)) (d % daysIn400Years)
  (r.1, r.2 + 1)

/-- The calendar fields of one instant (R113 to R119). -/
structure Fields where
  sec : Fin 60
  min : Nat
  hour : Nat
  wd : Nat
  year : Nat
  doy : Nat
  dsts : Bool
  dste : Bool
deriving DecidableEq, Repr

/-- The fields of local second `l` (R113, R114, R117, R119). -/
def fieldsOfLocal (z : Zone) (l : Nat) : Fields :=
  let d := dayOf l
  let yd := yearAndDay d
  let dst := zoneDst z d
  { sec := secOf l, min := minOf l, hour := hourOf l, wd := weekdayOf d, year := yd.1, doy := yd.2
    dsts := dst.dayStart, dste := dst.dayEnd }

/-- The fields of the instant `t` under ZONE; none where ZONE breaks R112 (b). -/
def fieldsAt (c : Config) (t : Nat) : Option Fields := (localSeconds c.zone t).map (fieldsOfLocal c.zone)

/-- YY, year in century (R118). -/
def yearInCentury (f : Fields) : Nat := f.year % 100

/-- CD, days since 1 January of the century's first year (R120). -/
def centuryDays (f : Fields) : Nat := daysFrom (f.year - yearInCentury f) (yearInCentury f) + (f.doy - 1)

/-- MOC, minutes since the start of the century (R120). -/
def minuteOfCentury (f : Fields) : Nat := centuryDays f * 1440 + f.hour * 60 + f.min

/-- TimeBit(i) (R120): bit i of MOC, bit 0 the least significant (R58). -/
def timeBit (f : Fields) (i : Nat) : Bool := minuteOfCentury f / 2 ^ i % 2 == 1

end Sys2Proof.Machine
end

