-- ==== Sys2Proof/Machine/Operands.lean ====
section
/-! DEFINITION. What the instructions read: the weighted bits of a field (41_calendar_bits.md R131), the parts of CFG that
PROTO selects, and one read operation per constant table (20_memory.md R50, `MemRead`). No read has a side effect (R60). -/

namespace Sys2Proof.Machine

/-- The decimal weights (R131). -/
inductive Weight where
  | w200
  | w100
  | w80
  | w40
  | w20
  | w10
  | w8
  | w4
  | w2
  | w1
deriving DecidableEq, Repr

/-- The value of a weight (R131). -/
def Weight.value : Weight → Nat
  | .w200 => 200
  | .w100 => 100
  | .w80 => 80
  | .w40 => 40
  | .w20 => 20
  | .w10 => 10
  | .w8 => 8
  | .w4 => 4
  | .w2 => 2
  | .w1 => 1

/-- W(V, w) (R131), with X = V mod 100 and U = V mod 10. -/
def weightBit (v : Nat) (w : Weight) : Bool :=
  let x := v % 100
  let u := v % 10
  match w with
  | .w200 => decide (200 ≤ v % 400)
  | .w100 => decide (100 ≤ v % 200)
  | .w80 => decide (80 ≤ x)
  | .w40 => decide (40 ≤ x % 80)
  | .w20 => decide (20 ≤ x % 40)
  | .w10 => decide (10 ≤ x % 20)
  | .w8 => decide (8 ≤ u)
  | .w4 => decide (4 ≤ u % 8)
  | .w2 => decide (2 ≤ u % 4)
  | .w1 => decide (u % 2 = 1)

/-- The Symbol of a boolean (R13, R81): false is ZERO, true is ONE. -/
def symbolOfBit (b : Bool) : Symbol := if b then .one else .zero

/-- The 2-bit code of a Symbol (R81). -/
def symbolCode : Symbol → BitVec 2
  | .zero => 0b00#2
  | .one => 0b01#2
  | .mark => 0b10#2

/-- Other(HIGH) = LOW and Other(LOW) = HIGH (R253). -/
def otherLevel : Level → Level
  | .high => .low
  | .low => .high

/-- TH[PROTO]. -/
def thresholds (c : Config) : Thresholds :=
  match c.proto with
  | .A => c.thA
  | .B => c.thB

/-- MemRead(TH, [PROTO][s]) (R252). -/
def readThreshold (c : Config) (y : Symbol) : Nat :=
  match y with
  | .mark => (thresholds c).mark
  | .one => (thresholds c).one
  | .zero => (thresholds c).zero

/-- LEAD[PROTO] (R253). -/
def leadLevel (c : Config) : Level :=
  match c.proto with
  | .A => c.leadA
  | .B => c.leadB

/-- AMP_ROM[PROTO] (R52). -/
def ampRom (c : Config) : Vector DispatchWord 61 :=
  match c.proto with
  | .A => c.ampRomA
  | .B => c.ampRomB

/-- MemRead(AMP_ROM[PROTO], SEC) (R52, R180): SEC is below 60, so entry 60 is never read (R184). -/
def readAmpRom (c : Config) (sec : Fin 60) : DispatchWord := (ampRom c)[sec.val]'(Nat.lt_succ_of_lt sec.isLt)

/-- MemRead(PH_ROM, SEC) (R53, R201). -/
def readPhRom (c : Config) (sec : Fin 60) : DispatchWord := c.phRom[sec.val]

/-- MemRead(SYNC_SEQ, i) for i in 0 .. 1 (R54). -/
def readSyncSeq (c : Config) (i : Nat) : BitVec 64 := if i = 0 then c.syncSeq0 else c.syncSeq1

/-- SeqBit(n) (R54), for n in 0 .. 126. -/
def seqBit (c : Config) (n : Nat) : Bool := (readSyncSeq c (n / 64)).getLsbD (n % 64)

/-- MemRead(TIMING_WORD, j) for j in 0 .. 105 (R55). -/
def readTimingWord (c : Config) (j : Nat) : Bool := c.timingWord.getLsbD j

/-- MemRead(HH_OFFSET, [e][s]) with e = DSTE and s = DSTS (R56, R212). -/
def readHhOffset (c : Config) (e s : Bool) : Int :=
  match e, s with
  | false, false => 1
  | true, true => c.hhOffset11
  | true, false => c.hhOffset10
  | false, true => c.hhOffset01

/-- MemRead(DSTLS, [j][e][s]) for j in 0 .. 1 (R56, R209). -/
def readDstls (c : Config) (j : Nat) (e s : Bool) : Bool := c.dstls.getLsbD (4 * j + 2 * e.toNat + s.toNat)

/-- The table of an amplitude state (R51, R248). -/
def wavetable (c : Config) (amp : Level) : List Int :=
  match amp with
  | .high => c.highTable
  | .low => c.lowTable

/-- The two's complement integer that the low `width` bits of `v` are (00_scope.md R11, R12). -/
def signedBits (width : Nat) (v : Int) : Int := (BitVec.ofInt width v).toInt

/-- MemRead(HIGH_TABLE or LOW_TABLE, i) (R50, R248): an entry is signed SW bits wide (R50, 44_wavetable.md R239; log entry
13); none past the table's end (R59). -/
def readWavetable (c : Config) (amp : Level) (i : Nat) : Option Int := (wavetable c amp)[i]?.map (signedBits c.sw)

end Sys2Proof.Machine
end

