-- ==== Sys2Proof/Machine/Defaults.lean ====
section
/-! DEFINITION. The defaults the spec gives for parameters of CFG: the dispatch ROMs (42_symbol_dispatch.md R186, R187;
43_phase_overlay.md R203), the thresholds (45_scheduler.md R252) and the rest of 00_scope.md R9; and the example
configuration that State.reset holds (log entry 2). -/

namespace Sys2Proof.Machine

/-- The default AMP_ROM[A] (R186), ten entries a line. -/
def defaultAmpRomA : Vector DispatchWord 61 :=
  #v[0x00, 0xC0, 0xC1, 0xC2, 0x40, 0xC3, 0xC4, 0xC5, 0xC6, 0x00,
     0x40, 0x40, 0xC8, 0xC9, 0x40, 0xCA, 0xCB, 0xCC, 0xCD, 0x00,
     0x40, 0x40, 0xD0, 0xD1, 0x40, 0xD2, 0xD3, 0xD4, 0xD5, 0x00,
     0xD6, 0xD7, 0xD8, 0xD9, 0x40, 0x40, 0xF0, 0xF1, 0x40, 0x00,
     0x40, 0xE0, 0xE1, 0xE2, 0xE3, 0xE4, 0xE5, 0xE6, 0xE7, 0x00,
     0xE8, 0xE9, 0xEA, 0x40, 0x40, 0x40, 0x40, 0x40, 0x40, 0x00,
     0x00]

/-- The default AMP_ROM[B] (R187), ten entries a line. -/
def defaultAmpRomB : Vector DispatchWord 61 :=
  #v[0x00, 0xC0, 0xC1, 0xC2, 0x40, 0xC3, 0xC4, 0xC5, 0xC6, 0x00,
     0x40, 0x40, 0xC8, 0xC9, 0x40, 0xCA, 0xCB, 0xCC, 0xCD, 0x00,
     0x40, 0x40, 0xD0, 0xD1, 0x40, 0xD2, 0xD3, 0xD4, 0xD5, 0x00,
     0xD6, 0xD7, 0xD8, 0xD9, 0x40, 0x40, 0x80, 0x40, 0x80, 0x00,
     0x40, 0x40, 0x40, 0x40, 0x40, 0xE0, 0xE1, 0xE2, 0xE3, 0x00,
     0xE4, 0xE5, 0xE6, 0xE7, 0x40, 0xF8, 0x40, 0xF9, 0xFA, 0x00,
     0x00]

/-- The word of an OPEN entry of the default PH_ROM: PFIX1 or PFIX0 (R203). -/
def openPhaseWord (b : Bool) : DispatchWord := if b then 0x20 else 0x00

/-- The default PH_ROM (R203), ten entries a line: bits 0 .. 2 of `spare` give the OPEN entries 50 .. 52, and DST_RULE[i]
gives entry 53 + i (R216). -/
def defaultPhRom (spare : BitVec 3) (dstRule : BitVec 7) : Vector DispatchWord 60 :=
  #v[0x00, 0x00, 0x20, 0x20, 0x20, 0x00, 0x20, 0x20, 0x00, 0x20,
     0x00, 0x00, 0x00, 0x64, 0x63, 0x62, 0x61, 0x60, 0x59, 0x40,
     0x58, 0x57, 0x56, 0x55, 0x54, 0x53, 0x52, 0x51, 0x50, 0x00,
     0x4F, 0x4E, 0x4D, 0x4C, 0x4B, 0x4A, 0x49, 0x48, 0x47, 0x00,
     0x46, 0x45, 0x44, 0x43, 0x42, 0x41, 0x40, 0x80, 0x81, 0x00,
     openPhaseWord (spare.getLsbD 0), openPhaseWord (spare.getLsbD 1), openPhaseWord (spare.getLsbD 2),
     openPhaseWord (dstRule.getLsbD 0), openPhaseWord (dstRule.getLsbD 1), openPhaseWord (dstRule.getLsbD 2),
     openPhaseWord (dstRule.getLsbD 3), openPhaseWord (dstRule.getLsbD 4), openPhaseWord (dstRule.getLsbD 5),
     openPhaseWord (dstRule.getLsbD 6)]

/-- The default TH[p] (R9, R252). -/
def defaultThresholds (p : Proto) (fs : Nat) : Thresholds :=
  match p with
  | .A => { mark := fs / 5, one := fs / 2, zero := 4 * fs / 5 }
  | .B => { mark := 4 * fs / 5, one := fs / 2, zero := fs / 5 }

/-- The default AMP for a sample width (R9). -/
def defaultAmp (sw : Nat) : Nat := 2 ^ (sw - 1) - 1

/-- LOW_TABLE's entry for HIGH_TABLE's entry `h` (44_wavetable.md R234): the fraction `num / den` of it, truncated toward
zero. -/
def attenuate (num den : Nat) (h : Int) : Int := (h * (num : Int)).tdiv (den : Int)

/-- The population of LOW_TABLE from HIGH_TABLE, once, before the first LOAD (R234). -/
def populateLow (num den : Nat) (high : List Int) : List Int := high.map (attenuate num den)

/-- The parameters R9 leaves OPEN, to which every other field of CFG has a default. -/
structure OpenParams where
  proto : Proto
  fs : Nat
  carrierNum : Nat
  carrierDen : Nat
  tlen : Nat
  lowRatioNum : Nat
  lowRatioDen : Nat
  zone : Zone
  syncSeq0 : BitVec 64
  syncSeq1 : BitVec 64
  timingWord : BitVec 106
  hhOffset11 : Int
  hhOffset10 : Int
  hhOffset01 : Int
  dstls : BitVec 8
  dstRule : BitVec 7
  phSpare : BitVec 3
  highTable : List Int
deriving DecidableEq, Repr

/-- CFG with every default of R9 filled in and LOW_TABLE populated by R234. -/
def OpenParams.toConfig (p : OpenParams) : Config :=
  { proto := p.proto, fs := p.fs, carrierNum := p.carrierNum, carrierDen := p.carrierDen, tlen := p.tlen
    sw := 16, amp := defaultAmp 16, lowRatioNum := p.lowRatioNum, lowRatioDen := p.lowRatioDen
    thA := defaultThresholds .A p.fs, thB := defaultThresholds .B p.fs, leadA := .high, leadB := .low
    pmOffset := p.fs / 10, rot := p.tlen / 2, zone := p.zone
    ampRomA := defaultAmpRomA, ampRomB := defaultAmpRomB, phRom := defaultPhRom p.phSpare p.dstRule
    syncSeq0 := p.syncSeq0, syncSeq1 := p.syncSeq1, timingWord := p.timingWord
    hhOffset11 := p.hhOffset11, hhOffset10 := p.hhOffset10, hhOffset01 := p.hhOffset01
    dstls := p.dstls, dstRule := p.dstRule, eccOdd := true, tw := 64
    highTable := p.highTable, lowTable := populateLow p.lowRatioNum p.lowRatioDen p.highTable }

/-- The OPEN parameters of the example configuration: program P2 of 95_test_vectors.md (protocol B, 40 samples a second,
carrier 10 Hz, 4 samples a table), the OPEN constants zero and the three OPEN offsets 2, 3 and 4.
DESIGN CHOICE, unsafe: log entry 2. -/
def exampleParams : OpenParams :=
  { proto := .B, fs := 40, carrierNum := 10, carrierDen := 1, tlen := 4, lowRatioNum := 10, lowRatioDen := 100
    zone := Zone.fixed 0, syncSeq0 := 0, syncSeq1 := 0, timingWord := 0
    hhOffset11 := 2, hhOffset10 := 3, hhOffset01 := 4, dstls := 0, dstRule := 0, phSpare := 0
    highTable := [0, 32767, 0, -32767] }

/-- The configuration State.reset holds. DESIGN CHOICE, unsafe: log entry 2. -/
def exampleConfig : Config := exampleParams.toConfig

end Sys2Proof.Machine
end

