-- ==== Sys2Proof/Machine/State.lean ====
section
/-! DEFINITION. The state of the machine, the reasons a step can stop, and the state after reset (10_state.md). -/

namespace Sys2Proof.Machine

/-- The CfgError reasons in the order of their codes 1 .. 14, which is the order of the checks (60_exceptions.md R272). -/
inductive CfgReason where
  | paramRange
  | wavetableCycles
  | rotNotHalfCycle
  | pmAlign
  | thRange
  | thOrder
  | adDefined
  | adSec0Mark
  | adSec1Min40
  | adSec60Mark
  | pdDefined
  | pdEcc5
  | pdDst2
  | loadSisRange
deriving DecidableEq, Repr

/-- Why the machine stops although no rule of the spec lets it: indexes and words that the start-up checks rule out
(20_memory.md R59: "a fault of the model"; U12). Under a well-formed CFG none is reached. -/
inductive Fault where
  /-- A reserved AD word was read at run time. Raised by the amplitude dispatch. Safe: log entry 18. -/
  | reservedAmpWord
  /-- A reserved PD word, or a PD operand outside its range, was met at run time. Raised by the phase dispatch and by
  PTIME, PECC and PDST. Safe: log entry 18. -/
  | reservedPhaseWord
  /-- The wavetable has no entry at the read index. Raised by the emission of TICK. Safe: log entry 18. -/
  | wavetableIndex
  /-- An entry of another format stands where a dispatch entry is run. Raised by the two dispatches. Safe: log entry 18. -/
  | formatMismatch
deriving DecidableEq, Repr

/-- What the spec tells a model to refuse. -/
inductive Refusal where
  /-- An instruction without a meaning; raised by `exec` alone. Safe. No arm of `exec` raises it. -/
  | notModelled (mnemonic : String)
  /-- T + 1 does not fit TW bits (10_state.md R21, U6: "`refuse`"). Raised by the second boundary. Safe: log entry 5. -/
  | timestampOverflow
  /-- ZONE makes local time negative, against 40_civil_time.md R112 (b) (U2: "`refuse`"). Raised wherever the calendar
  fields of an instant are derived. Safe: log entry 4. -/
  | zoneConstraint
deriving DecidableEq, Repr

/-- What the host drives on the input ports at one clock edge (10_state.md R34). load_t and load_sis carry only the low bits
of these numbers, as many as the ports have (`State.portLoadT`, `State.portLoadSis`). -/
structure Pins where
  rstN : Bool
  cmd : CmdCode
  loadT : Nat
  loadSis : Nat
deriving DecidableEq, Repr

/-- An edge at which the host drives nothing: rst_n high, cmd HOLD (R275, D14; log entry 8). -/
def Pins.idle : Pins := { rstN := true, cmd := 0, loadT := 0, loadSis := 0 }

/-- The machine's state: the Synthesis State and flags (R20 to R28), the output ports as the last edge left them and the
input ports of the current edge (R34), CFG (R29), the inputs the host will drive (log entry 8) and the counter of free
values (log entry 7). -/
structure State where
  /-- T, the Calendar Timestamp (R21). -/
  t : Nat
  /-- SIS, the sample-index-within-second (R22). -/
  sis : Nat
  /-- WTI, the wavetable-index (R23). -/
  wti : Nat
  /-- THR, the current second's threshold (R24). -/
  thr : Nat
  /-- POFF, the wavetable phase offset (R25). -/
  poff : Nat
  /-- VALID (R26). -/
  valid : Bool
  /-- CFG_ERR (R28). -/
  cfgErr : Bool
  /-- The reason of the CfgError, a value of the model (R273; log entry 15). -/
  reason : Option CfgReason
  /-- Port sample_o after the last edge: an integer of SW bits in two's complement (R34, R239). -/
  sampleO : Int
  /-- Port amp_o after the last edge. -/
  ampO : Bool
  /-- The instants the last edge presented on port zq_t, in order (R111; log entry 19). -/
  zq : List Nat
  /-- The input ports of the current edge. -/
  pins : Pins
  /-- What the host drives at the coming edges, first first. -/
  stimulus : List Pins
  /-- CFG; no operation writes it (R57, U1; log entry 1). -/
  cfg : Config
  /-- The next argument of `Config.unspecified`. -/
  freeIdx : Nat
deriving DecidableEq, Repr

/-- The machine right after reset (R36, R300): VALID = 0, CFG_ERR = 0, outputs 0. The registers R36 calls unspecified are
zero here (DESIGN CHOICE, unsafe: log entry 6), CFG is the example configuration (DESIGN CHOICE, unsafe: log entry 2) and
nothing is driven (log entry 8). -/
def State.reset : State :=
  { t := 0, sis := 0, wti := 0, thr := 0, poff := 0, valid := false, cfgErr := false, reason := none
    sampleO := 0, ampO := false, zq := [], pins := Pins.idle, stimulus := [], cfg := exampleConfig, freeIdx := 0 }

end Sys2Proof.Machine
end

