-- ==== Sys2Proof/Machine/Flags.lean ====
section
/-! DEFINITION. The flags VALID and CFG_ERR as ports show them, and what sets CFG_ERR: the configuration checks of LOAD, in
their order (60_exceptions.md R272; 30_encoding.md R96). -/

namespace Sys2Proof.Machine

/-- Port valid_o (10_state.md R34). -/
def State.validO (s : State) : Bool := s.valid

/-- Port cfg_err_o (10_state.md R34). -/
def State.cfgErrO (s : State) : Bool := s.cfgErr

/-- Port cont_o: constantly 1 (45_scheduler.md R258). -/
def State.contO (_ : State) : Bool := true

/-- CYCLES (44_wavetable.md R231). -/
def cycles (c : Config) : Nat := c.tlen * c.carrierNum / (c.carrierDen * c.fs)

/-- Check 1 fails: a parameter is outside its legal values (R272 row 1; PM_OFFSET and ROT in protocol B only). -/
def paramRangeFails (c : Config) : Bool :=
  decide (c.fs < 1) || decide (c.tlen < 1) || decide (c.carrierNum < 1) || decide (c.carrierDen < 1) ||
  decide (c.sw < 2) || decide (c.amp < 1) || decide (2 ^ (c.sw - 1) - 1 < c.amp) ||
  decide (c.lowRatioNum < 1) || decide (c.lowRatioDen < 1) || decide (c.lowRatioDen ≤ c.lowRatioNum) ||
  decide (c.tw < 1) ||
  (decide (c.proto = .B) && (decide (c.fs ≤ c.pmOffset) || decide (c.tlen ≤ c.rot)))

/-- Check 2 fails (R231, R233). -/
def wavetableCyclesFails (c : Config) : Bool :=
  decide (c.tlen * c.carrierNum % (c.carrierDen * c.fs) ≠ 0) || decide (cycles c < 1)

/-- Check 3 fails: (ROT * CYCLES) mod TLEN is not the exact half of TLEN (R236; log entry 14). -/
def rotNotHalfCycleFails (c : Config) : Bool :=
  decide (c.proto = .B) && decide (2 * (c.rot * cycles c % c.tlen) ≠ c.tlen)

/-- Check 4 fails (R251). -/
def pmAlignFails (c : Config) : Bool :=
  decide (c.proto = .B) && (decide (c.fs % c.tlen ≠ 0) || decide (c.pmOffset % c.tlen ≠ 0))

/-- Check 5 fails (R96, TH_RANGE). -/
def thRangeFails (c : Config) : Bool :=
  let outside (n : Nat) : Bool := decide (n < 1) || decide (c.fs < n)
  outside (thresholds c).mark || outside (thresholds c).one || outside (thresholds c).zero

/-- Check 6 fails (R96, TH_ORDER): the LOW portion is to be longest for MARK, then ONE, then ZERO. -/
def thOrderFails (c : Config) : Bool :=
  let h := thresholds c
  match leadLevel c with
  | .low => !(decide (h.one < h.mark) && decide (h.zero < h.one))
  | .high => !(decide (h.mark < h.one) && decide (h.one < h.zero))

/-- Does the word select an instruction of the format? -/
def defined (f : Format) (w : DispatchWord) : Bool :=
  match decode f w with
  | .ok _ => true
  | .error _ => false

/-- Check 7 fails (R86, R96). -/
def adDefinedFails (c : Config) : Bool := !((ampRom c).toList.all (defined .ad))

/-- Check 8 fails (R96). -/
def adSec0MarkFails (c : Config) : Bool := decide ((ampRom c)[0] ≠ encode .mark)

/-- Check 9 fails (R96). -/
def adSec1Min40Fails (c : Config) : Bool := decide ((ampRom c)[1] ≠ encode .min40)

/-- Check 10 fails (R96). -/
def adSec60MarkFails (c : Config) : Bool := decide ((ampRom c)[60] ≠ encode .mark)

/-- Check 11 fails (R91, R96). -/
def pdDefinedFails (c : Config) : Bool := decide (c.proto = .B) && !(c.phRom.toList.all (defined .pd))

/-- Does PH_ROM hold the entry exactly once? -/
def holdsOnce (c : Config) (i : Instr) : Bool := decide (c.phRom.toList.count (encode i) = 1)

/-- Check 12 fails: not exactly one PECC k for each k in 0 .. 4 (R96). -/
def pdEcc5Fails (c : Config) : Bool :=
  decide (c.proto = .B) && !((List.range 5).all fun k => holdsOnce c (.pecc k))

/-- Check 13 fails: not exactly one PDST 0 and one PDST 1 (R96). -/
def pdDst2Fails (c : Config) : Bool :=
  decide (c.proto = .B) && !((List.range 2).all fun j => holdsOnce c (.pdst j))

/-- The checks 1 to 13 in the order of R272; check 14 needs LOAD's operand. -/
def configChecks (c : Config) : List (CfgReason × Bool) :=
  [(.paramRange, paramRangeFails c), (.wavetableCycles, wavetableCyclesFails c),
   (.rotNotHalfCycle, rotNotHalfCycleFails c), (.pmAlign, pmAlignFails c), (.thRange, thRangeFails c),
   (.thOrder, thOrderFails c), (.adDefined, adDefinedFails c), (.adSec0Mark, adSec0MarkFails c),
   (.adSec1Min40, adSec1Min40Fails c), (.adSec60Mark, adSec60MarkFails c), (.pdDefined, pdDefinedFails c),
   (.pdEcc5, pdEcc5Fails c), (.pdDst2, pdDst2Fails c)]

/-- The first check of a list that fails (R272: "the reason reported is that of the first failing check"). -/
def firstFailure : List (CfgReason × Bool) → Option CfgReason
  | [] => none
  | (r, failed) :: rest => if failed then some r else firstFailure rest

/-- The reason CFG is not well formed, or none (R10, R272). -/
def configError (c : Config) : Option CfgReason := firstFailure (configChecks c)

/-- The code of a reason (R272). -/
def CfgReason.code : CfgReason → Nat
  | .paramRange => 1
  | .wavetableCycles => 2
  | .rotNotHalfCycle => 3
  | .pmAlign => 4
  | .thRange => 5
  | .thOrder => 6
  | .adDefined => 7
  | .adSec0Mark => 8
  | .adSec1Min40 => 9
  | .adSec60Mark => 10
  | .pdDefined => 11
  | .pdEcc5 => 12
  | .pdDst2 => 13
  | .loadSisRange => 14

end Sys2Proof.Machine
end

