-- ==== Sys2Proof/Machine/Ops.lean ====
section
/-! DEFINITION. The named operations over the registers: sequencing, the output ports, writing the Symbol's threshold and
the phase offset, taking CfgError (60_exceptions.md R271), hardware reset, which is the only way out of it
(70_reset_and_hazards.md R300; 60_exceptions.md R279), and the steps of TICK (45_scheduler.md R248 to R250). -/

namespace Sys2Proof.Machine

/-- `f` on the next state, if there is one. -/
def andThen (o : Host.Outcome State Fault Refusal) (f : State → Host.Outcome State Fault Refusal) :
    Host.Outcome State Fault Refusal :=
  match o with
  | .next s => f s
  | .fault r => .fault r
  | .refused r => .refused r

/-- The output ports of an edge that emits no sample and asks ZONE nothing (R34: sample_o is 0 "on HOLD, LOAD and a refused
TICK"). Every command starts from it. -/
def State.quiet (s : State) : State := { s with sampleO := 0, ampO := false, zq := [] }

/-- The query of ZONE about T: zq_t presents T (R111). -/
def State.askZone (s : State) : State := { s with zq := s.zq ++ [s.t] }

/-- `raise CfgError(reason)` (R271, R278): CFG_ERR <- 1, VALID <- 0, and nothing else changes but the recorded reason
(R273). Nothing is saved and control goes nowhere: there is no vector. -/
def raiseCfgError (r : CfgReason) (s : State) : State := { s with cfgErr := true, valid := false, reason := some r }

/-- The number of bits that holds `n` (R22: "the smallest number of bits that holds FS"). -/
def widthOf (n : Nat) : Nat := Nat.log2 n + 1

/-- Hardware reset at an edge with rst_n low (R300). T, SIS, WTI, THR and POFF become unspecified (U3): free values, T, SIS
and WTI within their widths (R21, R22, D3; log entry 7). It is also the only return from CfgError (R279). -/
def hardwareReset (s : State) : State :=
  let n := s.freeIdx
  { s.quiet with
    t := Config.unspecified n % 2 ^ s.cfg.tw
    sis := Config.unspecified (n + 1) % 2 ^ widthOf s.cfg.fs
    wti := Config.unspecified (n + 2) % 2 ^ widthOf s.cfg.tlen
    thr := Config.unspecified (n + 3)
    poff := Config.unspecified (n + 4)
    valid := false
    cfgErr := false
    reason := none
    freeIdx := n + 5 }

/-- What a Symbol does (R191, R252): THR <- TH[PROTO][s]. The Symbol itself is not stored (R30). -/
def setSymbol (y : Symbol) (s : State) : Host.Outcome State Fault Refusal :=
  .next { s with thr := readThreshold s.cfg y }

/-- The dispatch of VAR f (R188): the function's boolean at T, mapped to a Symbol. -/
def runVar (f : Fields → Bool) (s : State) : Host.Outcome State Fault Refusal :=
  match fieldsAt s.cfg s.t with
  | none => .refused .zoneConstraint
  | some x => setSymbol (symbolOfBit (f x)) s

/-- What a Phase Symbol does (R218, R251): POFF <- ROT if true, 0 if false. -/
def setPhase (b : Bool) (s : State) : Host.Outcome State Fault Refusal :=
  .next { s with poff := if b then s.cfg.rot else 0 }

/-- The dispatch of a phase entry that reads T: the Phase Symbol its rule gives at T. -/
def runPhaseBit (f : Config → Fields → Bool) (s : State) : Host.Outcome State Fault Refusal :=
  match fieldsAt s.cfg s.t with
  | none => .refused .zoneConstraint
  | some x => setPhase (f s.cfg x) s

/-- The amplitude state of the sample (R248 step 2, R253). -/
def ampLevel (s : State) : Level :=
  if s.sis < s.thr then leadLevel s.cfg else otherLevel (leadLevel s.cfg)

/-- The read index (R249). -/
def readIndex (s : State) : Nat := (s.wti + s.poff) % s.cfg.tlen

/-- R248 step 2: one sample on the output ports; sample_o carries the table's SW bits unchanged (44_wavetable.md R239). -/
def emitSample (s : State) : Host.Outcome State Fault Refusal :=
  match readWavetable s.cfg (ampLevel s) (readIndex s) with
  | some v => .next { s with sampleO := v, ampO := decide (ampLevel s = .high) }
  | none => .fault .wavetableIndex

/-- R248 step 3: the indexes advance. -/
def advanceIndexes (s : State) : State := { s with wti := (s.wti + 1) % s.cfg.tlen, sis := s.sis + 1 }

/-- R250 (a) and (b): the next second. -/
def nextSecond (s : State) : State := { s with t := s.t + 1, sis := 0 }

/-- R250 (d): protocol B resets sub-second phase alignment. -/
def realign (s : State) : State := { s with wti := if s.cfg.proto = .B then 0 else s.wti }

/-- The value on port load_t: TW bits (R34; log entry 16). -/
def State.portLoadT (s : State) : Nat := s.pins.loadT % 2 ^ s.cfg.tw

/-- The value on port load_sis: the width of SIS (R34, R22; log entry 16). -/
def State.portLoadSis (s : State) : Nat := s.pins.loadSis % 2 ^ widthOf s.cfg.fs

/-- The registers LOAD sets before the Symbol of t0 is known (R247 step 3). -/
def loadRegisters (s : State) : State :=
  { s with t := s.portLoadT, sis := s.portLoadSis, wti := 0, poff := 0 }

/-- VALID <- 1 (R26, R247 step 3). -/
def State.validate (s : State) : State := { s with valid := true }

end Sys2Proof.Machine
end

