-- ==== Sys2Proof/Machine/Calendar.lean ====
section
/-! DEFINITION. The Calendar Bit Functions (41_calendar_bits.md) and the meanings of the VAR entries that name them: each
entry writes THR from the Symbol of its function at T (42_symbol_dispatch.md R188; 45_scheduler.md R252). -/

namespace Sys2Proof.Machine

/-- MIN40 (R133): minute weight 40. -/
def bitMin40 (f : Fields) : Bool := weightBit f.min .w40

/-- MIN20 (R134): minute weight 20. -/
def bitMin20 (f : Fields) : Bool := weightBit f.min .w20

/-- MIN10 (R135): minute weight 10. -/
def bitMin10 (f : Fields) : Bool := weightBit f.min .w10

/-- MIN8 (R136): minute weight 8. -/
def bitMin8 (f : Fields) : Bool := weightBit f.min .w8

/-- MIN4 (R137): minute weight 4. -/
def bitMin4 (f : Fields) : Bool := weightBit f.min .w4

/-- MIN2 (R138): minute weight 2. -/
def bitMin2 (f : Fields) : Bool := weightBit f.min .w2

/-- MIN1 (R139): minute weight 1. -/
def bitMin1 (f : Fields) : Bool := weightBit f.min .w1

/-- HR20 (R140): hour weight 20. -/
def bitHr20 (f : Fields) : Bool := weightBit f.hour .w20

/-- HR10 (R141): hour weight 10. -/
def bitHr10 (f : Fields) : Bool := weightBit f.hour .w10

/-- HR8 (R142): hour weight 8. -/
def bitHr8 (f : Fields) : Bool := weightBit f.hour .w8

/-- HR4 (R143): hour weight 4. -/
def bitHr4 (f : Fields) : Bool := weightBit f.hour .w4

/-- HR2 (R144): hour weight 2. -/
def bitHr2 (f : Fields) : Bool := weightBit f.hour .w2

/-- HR1 (R145): hour weight 1. -/
def bitHr1 (f : Fields) : Bool := weightBit f.hour .w1

/-- DOY200 (R146): day-of-year weight 200. -/
def bitDoy200 (f : Fields) : Bool := weightBit f.doy .w200

/-- DOY100 (R147): day-of-year weight 100. -/
def bitDoy100 (f : Fields) : Bool := weightBit f.doy .w100

/-- DOY80 (R148): day-of-year weight 80. -/
def bitDoy80 (f : Fields) : Bool := weightBit f.doy .w80

/-- DOY40 (R149): day-of-year weight 40. -/
def bitDoy40 (f : Fields) : Bool := weightBit f.doy .w40

/-- DOY20 (R150): day-of-year weight 20. -/
def bitDoy20 (f : Fields) : Bool := weightBit f.doy .w20

/-- DOY10 (R151): day-of-year weight 10. -/
def bitDoy10 (f : Fields) : Bool := weightBit f.doy .w10

/-- DOY8 (R152): day-of-year weight 8. -/
def bitDoy8 (f : Fields) : Bool := weightBit f.doy .w8

/-- DOY4 (R153): day-of-year weight 4. -/
def bitDoy4 (f : Fields) : Bool := weightBit f.doy .w4

/-- DOY2 (R154): day-of-year weight 2. -/
def bitDoy2 (f : Fields) : Bool := weightBit f.doy .w2

/-- DOY1 (R155): day-of-year weight 1. -/
def bitDoy1 (f : Fields) : Bool := weightBit f.doy .w1

/-- YR80 (R156): year-in-century weight 80. -/
def bitYr80 (f : Fields) : Bool := weightBit (yearInCentury f) .w80

/-- YR40 (R157): year-in-century weight 40. -/
def bitYr40 (f : Fields) : Bool := weightBit (yearInCentury f) .w40

/-- YR20 (R158): year-in-century weight 20. -/
def bitYr20 (f : Fields) : Bool := weightBit (yearInCentury f) .w20

/-- YR10 (R159): year-in-century weight 10. -/
def bitYr10 (f : Fields) : Bool := weightBit (yearInCentury f) .w10

/-- YR8 (R160): year-in-century weight 8. -/
def bitYr8 (f : Fields) : Bool := weightBit (yearInCentury f) .w8

/-- YR4 (R161): year-in-century weight 4. -/
def bitYr4 (f : Fields) : Bool := weightBit (yearInCentury f) .w4

/-- YR2 (R162): year-in-century weight 2. -/
def bitYr2 (f : Fields) : Bool := weightBit (yearInCentury f) .w2

/-- YR1 (R163): year-in-century weight 1. -/
def bitYr1 (f : Fields) : Bool := weightBit (yearInCentury f) .w1

/-- WD4 (R164): weekday weight 4. -/
def bitWd4 (f : Fields) : Bool := weightBit f.wd .w4

/-- WD2 (R165): weekday weight 2. -/
def bitWd2 (f : Fields) : Bool := weightBit f.wd .w2

/-- WD1 (R166): weekday weight 1. -/
def bitWd1 (f : Fields) : Bool := weightBit f.wd .w1

/-- PA1 (R167): even parity over the six hour bits, by exclusive or of their functions (R172). -/
def bitPa1 (f : Fields) : Bool :=
  bitHr20 f ^^ bitHr10 f ^^ bitHr8 f ^^ bitHr4 f ^^ bitHr2 f ^^ bitHr1 f

/-- PA2 (R168): even parity over the seven minute bits, by exclusive or of their functions (R172). -/
def bitPa2 (f : Fields) : Bool :=
  bitMin40 f ^^ bitMin20 f ^^ bitMin10 f ^^ bitMin8 f ^^ bitMin4 f ^^ bitMin2 f ^^ bitMin1 f

/-- LYI (R169): leap(Y) on the full local year. -/
def bitLyi (f : Fields) : Bool := leap f.year

/-- DSTE (R170): DST in effect at the end of the local day. -/
def bitDste (f : Fields) : Bool := f.dste

/-- DSTS (R171): DST in effect at the start of the local day. -/
def bitDsts (f : Fields) : Bool := f.dsts

/-- VAR MIN40 (R133, R188). -/
def execMin40 (s : State) : Host.Outcome State Fault Refusal := runVar bitMin40 s

/-- VAR MIN20 (R134, R188). -/
def execMin20 (s : State) : Host.Outcome State Fault Refusal := runVar bitMin20 s

/-- VAR MIN10 (R135, R188). -/
def execMin10 (s : State) : Host.Outcome State Fault Refusal := runVar bitMin10 s

/-- VAR MIN8 (R136, R188). -/
def execMin8 (s : State) : Host.Outcome State Fault Refusal := runVar bitMin8 s

/-- VAR MIN4 (R137, R188). -/
def execMin4 (s : State) : Host.Outcome State Fault Refusal := runVar bitMin4 s

/-- VAR MIN2 (R138, R188). -/
def execMin2 (s : State) : Host.Outcome State Fault Refusal := runVar bitMin2 s

/-- VAR MIN1 (R139, R188). -/
def execMin1 (s : State) : Host.Outcome State Fault Refusal := runVar bitMin1 s

/-- VAR HR20 (R140, R188). -/
def execHr20 (s : State) : Host.Outcome State Fault Refusal := runVar bitHr20 s

/-- VAR HR10 (R141, R188). -/
def execHr10 (s : State) : Host.Outcome State Fault Refusal := runVar bitHr10 s

/-- VAR HR8 (R142, R188). -/
def execHr8 (s : State) : Host.Outcome State Fault Refusal := runVar bitHr8 s

/-- VAR HR4 (R143, R188). -/
def execHr4 (s : State) : Host.Outcome State Fault Refusal := runVar bitHr4 s

/-- VAR HR2 (R144, R188). -/
def execHr2 (s : State) : Host.Outcome State Fault Refusal := runVar bitHr2 s

/-- VAR HR1 (R145, R188). -/
def execHr1 (s : State) : Host.Outcome State Fault Refusal := runVar bitHr1 s

/-- VAR DOY200 (R146, R188). -/
def execDoy200 (s : State) : Host.Outcome State Fault Refusal := runVar bitDoy200 s

/-- VAR DOY100 (R147, R188). -/
def execDoy100 (s : State) : Host.Outcome State Fault Refusal := runVar bitDoy100 s

/-- VAR DOY80 (R148, R188). -/
def execDoy80 (s : State) : Host.Outcome State Fault Refusal := runVar bitDoy80 s

/-- VAR DOY40 (R149, R188). -/
def execDoy40 (s : State) : Host.Outcome State Fault Refusal := runVar bitDoy40 s

/-- VAR DOY20 (R150, R188). -/
def execDoy20 (s : State) : Host.Outcome State Fault Refusal := runVar bitDoy20 s

/-- VAR DOY10 (R151, R188). -/
def execDoy10 (s : State) : Host.Outcome State Fault Refusal := runVar bitDoy10 s

/-- VAR DOY8 (R152, R188). -/
def execDoy8 (s : State) : Host.Outcome State Fault Refusal := runVar bitDoy8 s

/-- VAR DOY4 (R153, R188). -/
def execDoy4 (s : State) : Host.Outcome State Fault Refusal := runVar bitDoy4 s

/-- VAR DOY2 (R154, R188). -/
def execDoy2 (s : State) : Host.Outcome State Fault Refusal := runVar bitDoy2 s

/-- VAR DOY1 (R155, R188). -/
def execDoy1 (s : State) : Host.Outcome State Fault Refusal := runVar bitDoy1 s

/-- VAR YR80 (R156, R188). -/
def execYr80 (s : State) : Host.Outcome State Fault Refusal := runVar bitYr80 s

/-- VAR YR40 (R157, R188). -/
def execYr40 (s : State) : Host.Outcome State Fault Refusal := runVar bitYr40 s

/-- VAR YR20 (R158, R188). -/
def execYr20 (s : State) : Host.Outcome State Fault Refusal := runVar bitYr20 s

/-- VAR YR10 (R159, R188). -/
def execYr10 (s : State) : Host.Outcome State Fault Refusal := runVar bitYr10 s

/-- VAR YR8 (R160, R188). -/
def execYr8 (s : State) : Host.Outcome State Fault Refusal := runVar bitYr8 s

/-- VAR YR4 (R161, R188). -/
def execYr4 (s : State) : Host.Outcome State Fault Refusal := runVar bitYr4 s

/-- VAR YR2 (R162, R188). -/
def execYr2 (s : State) : Host.Outcome State Fault Refusal := runVar bitYr2 s

/-- VAR YR1 (R163, R188). -/
def execYr1 (s : State) : Host.Outcome State Fault Refusal := runVar bitYr1 s

/-- VAR WD4 (R164, R188). -/
def execWd4 (s : State) : Host.Outcome State Fault Refusal := runVar bitWd4 s

/-- VAR WD2 (R165, R188). -/
def execWd2 (s : State) : Host.Outcome State Fault Refusal := runVar bitWd2 s

/-- VAR WD1 (R166, R188). -/
def execWd1 (s : State) : Host.Outcome State Fault Refusal := runVar bitWd1 s

/-- VAR PA1 (R167, R188). -/
def execPa1 (s : State) : Host.Outcome State Fault Refusal := runVar bitPa1 s

/-- VAR PA2 (R168, R188). -/
def execPa2 (s : State) : Host.Outcome State Fault Refusal := runVar bitPa2 s

/-- VAR LYI (R169, R188). -/
def execLyi (s : State) : Host.Outcome State Fault Refusal := runVar bitLyi s

/-- VAR DSTE (R170, R188). -/
def execDste (s : State) : Host.Outcome State Fault Refusal := runVar bitDste s

/-- VAR DSTS (R171, R188). -/
def execDsts (s : State) : Host.Outcome State Fault Refusal := runVar bitDsts s

end Sys2Proof.Machine
end

