-- ==== Sys2Proof/Machine/Amplitude.lean ====
section
/-! DEFINITION. The fixed amplitude entries and the Second Symbol Table's dispatch (42_symbol_dispatch.md). -/

namespace Sys2Proof.Machine

/-- MARK (R181): Sym <- MARK. -/
def execMark (s : State) : Host.Outcome State Fault Refusal := setSymbol .mark s

/-- FZERO (R182): Sym <- ZERO, whatever T is. -/
def execFzero (s : State) : Host.Outcome State Fault Refusal := setSymbol .zero s

/-- FONE (R183): Sym <- ONE, whatever T is. -/
def execFone (s : State) : Host.Outcome State Fault Refusal := setSymbol .one s

/-- Runs one decoded entry of AMP_ROM (R180): the meaning its instruction has. -/
def runAmpEntry (i : Instr) (s : State) : Host.Outcome State Fault Refusal :=
  match i with
  | .mark => execMark s
  | .fzero => execFzero s
  | .fone => execFone s
  | .min40 => execMin40 s
  | .min20 => execMin20 s
  | .min10 => execMin10 s
  | .min8 => execMin8 s
  | .min4 => execMin4 s
  | .min2 => execMin2 s
  | .min1 => execMin1 s
  | .hr20 => execHr20 s
  | .hr10 => execHr10 s
  | .hr8 => execHr8 s
  | .hr4 => execHr4 s
  | .hr2 => execHr2 s
  | .hr1 => execHr1 s
  | .doy200 => execDoy200 s
  | .doy100 => execDoy100 s
  | .doy80 => execDoy80 s
  | .doy40 => execDoy40 s
  | .doy20 => execDoy20 s
  | .doy10 => execDoy10 s
  | .doy8 => execDoy8 s
  | .doy4 => execDoy4 s
  | .doy2 => execDoy2 s
  | .doy1 => execDoy1 s
  | .yr80 => execYr80 s
  | .yr40 => execYr40 s
  | .yr20 => execYr20 s
  | .yr10 => execYr10 s
  | .yr8 => execYr8 s
  | .yr4 => execYr4 s
  | .yr2 => execYr2 s
  | .yr1 => execYr1 s
  | .wd4 => execWd4 s
  | .wd2 => execWd2 s
  | .wd1 => execWd1 s
  | .pa1 => execPa1 s
  | .pa2 => execPa2 s
  | .lyi => execLyi s
  | .dste => execDste s
  | .dsts => execDsts s
  | .pfix0 => .fault .formatMismatch
  | .pfix1 => .fault .formatMismatch
  | .ptime _ => .fault .formatMismatch
  | .pecc _ => .fault .formatMismatch
  | .pdst _ => .fault .formatMismatch
  | .hold => .fault .formatMismatch
  | .tick => .fault .formatMismatch
  | .load => .fault .formatMismatch

/-- The Second Symbol Table at the current T (R180): reads AMP_ROM[PROTO][SEC] and runs that entry. The entry's Symbol
becomes the threshold (R252). -/
def dispatchAmp (s : State) : Host.Outcome State Fault Refusal :=
  match fieldsAt s.cfg s.t with
  | none => .refused .zoneConstraint
  | some f =>
    match decode .ad (readAmpRom s.cfg f.sec) with
    | .ok i => runAmpEntry i s.askZone
    | .error _ => .fault .reservedAmpWord

end Sys2Proof.Machine
end

