-- ==== Sys2Proof/Machine/Phase.lean ====
section
/-! DEFINITION. The Phase-Overlay Encoder (43_phase_overlay.md; protocol B only): the phase dispatch entries, the six-minute
windows and the phase query. -/

namespace Sys2Proof.Machine

/-- InWindow(T) (R210). -/
def inWindow (f : Fields) : Bool := decide (10 ≤ f.min % 30) && decide (f.min % 30 ≤ 15)

/-- t, the sub-frame offset (R211). -/
def subFrame (f : Fields) : Nat := f.min % 10 * 60 + f.sec.val

/-- HHI, the half-hour sequence index (R212). -/
def halfHourIndex (c : Config) (f : Fields) : Int :=
  (f.hour : Int) * 4 + ((f.min / 17 : Nat) : Int) + readHhOffset c f.dste f.dsts

/-- q of the descending lookup (R213), the non-negative remainder modulo 127 (U10). -/
def descendingIndex (c : Config) (f : Fields) : Nat := ((halfHourIndex c f + 126 - (subFrame f : Int)) % 127).toNat

/-- q of the ascending lookup (R213). -/
def ascendingIndex (c : Config) (f : Fields) : Nat := ((halfHourIndex c f + (subFrame f : Int) - 233) % 127).toNat

/-- Window(T), the Phase Symbol inside a window (R213, R214). -/
def windowBit (c : Config) (f : Fields) : Bool :=
  if subFrame f < 127 then seqBit c (descendingIndex c f)
  else if subFrame f < 233 then readTimingWord c (subFrame f - 127)
  else seqBit c (ascendingIndex c f)

/-- PTIME n's Phase Symbol (R205): TimeBit(n). -/
def phaseTime (n : Nat) (_ : Config) (f : Fields) : Bool := timeBit f n

/-- PECC k's Phase Symbol (R208): the fold over i from 1 to 25 that starts at ECC_ODD. -/
def phaseEcc (k : Nat) (c : Config) (f : Fields) : Bool :=
  (List.range' 1 25).foldl (fun p i => if i &&& (1 <<< k) ≠ 0 then p ^^ timeBit f i else p) c.eccOdd

/-- PDST j's Phase Symbol (R209). -/
def phaseDst (j : Nat) (c : Config) (f : Fields) : Bool := readDstls c j f.dste f.dsts

/-- PFIX0 (R204): PH <- false. -/
def execPfix0 (s : State) : Host.Outcome State Fault Refusal := setPhase false s

/-- PFIX1 (R206): PH <- true. -/
def execPfix1 (s : State) : Host.Outcome State Fault Refusal := setPhase true s

/-- PTIME n (R205); n above 25 is a reserved word (R91). -/
def execPtime (n : Nat) (s : State) : Host.Outcome State Fault Refusal :=
  if n ≤ 25 then runPhaseBit (phaseTime n) s else .fault .reservedPhaseWord

/-- PECC k (R208); k above 4 is a reserved word (R91). -/
def execPecc (k : Nat) (s : State) : Host.Outcome State Fault Refusal :=
  if k ≤ 4 then runPhaseBit (phaseEcc k) s else .fault .reservedPhaseWord

/-- PDST j (R209); j above 1 is a reserved word (R91). -/
def execPdst (j : Nat) (s : State) : Host.Outcome State Fault Refusal :=
  if j ≤ 1 then runPhaseBit (phaseDst j) s else .fault .reservedPhaseWord

/-- Runs one decoded entry of PH_ROM (R201): the meaning its instruction has. -/
def runPhaseEntry (i : Instr) (s : State) : Host.Outcome State Fault Refusal :=
  match i with
  | .mark => .fault .formatMismatch
  | .fzero => .fault .formatMismatch
  | .fone => .fault .formatMismatch
  | .min40 => .fault .formatMismatch
  | .min20 => .fault .formatMismatch
  | .min10 => .fault .formatMismatch
  | .min8 => .fault .formatMismatch
  | .min4 => .fault .formatMismatch
  | .min2 => .fault .formatMismatch
  | .min1 => .fault .formatMismatch
  | .hr20 => .fault .formatMismatch
  | .hr10 => .fault .formatMismatch
  | .hr8 => .fault .formatMismatch
  | .hr4 => .fault .formatMismatch
  | .hr2 => .fault .formatMismatch
  | .hr1 => .fault .formatMismatch
  | .doy200 => .fault .formatMismatch
  | .doy100 => .fault .formatMismatch
  | .doy80 => .fault .formatMismatch
  | .doy40 => .fault .formatMismatch
  | .doy20 => .fault .formatMismatch
  | .doy10 => .fault .formatMismatch
  | .doy8 => .fault .formatMismatch
  | .doy4 => .fault .formatMismatch
  | .doy2 => .fault .formatMismatch
  | .doy1 => .fault .formatMismatch
  | .yr80 => .fault .formatMismatch
  | .yr40 => .fault .formatMismatch
  | .yr20 => .fault .formatMismatch
  | .yr10 => .fault .formatMismatch
  | .yr8 => .fault .formatMismatch
  | .yr4 => .fault .formatMismatch
  | .yr2 => .fault .formatMismatch
  | .yr1 => .fault .formatMismatch
  | .wd4 => .fault .formatMismatch
  | .wd2 => .fault .formatMismatch
  | .wd1 => .fault .formatMismatch
  | .pa1 => .fault .formatMismatch
  | .pa2 => .fault .formatMismatch
  | .lyi => .fault .formatMismatch
  | .dste => .fault .formatMismatch
  | .dsts => .fault .formatMismatch
  | .pfix0 => execPfix0 s
  | .pfix1 => execPfix1 s
  | .ptime n => execPtime n s
  | .pecc k => execPecc k s
  | .pdst j => execPdst j s
  | .hold => .fault .formatMismatch
  | .tick => .fault .formatMismatch
  | .load => .fault .formatMismatch

/-- PH(T) (R200, R201, R202) turned into POFF (R251): inside a window the window's bit and PH_ROM is not read, else the
entry PH_ROM[SEC]. -/
def dispatchPhase (s : State) : Host.Outcome State Fault Refusal :=
  match fieldsAt s.cfg s.t with
  | none => .refused .zoneConstraint
  | some f =>
    if inWindow f then setPhase (windowBit s.cfg f) s.askZone
    else
      match decode .pd (readPhRom s.cfg f.sec) with
      | .ok i => runPhaseEntry i s.askZone
      | .error _ => .fault .reservedPhaseWord

end Sys2Proof.Machine
end

