-- ==== Sys2Proof/Machine/Scheduler.lean ====
section
/-! DEFINITION. The commands HOLD, LOAD and TICK (45_scheduler.md). -/

namespace Sys2Proof.Machine

/-- HOLD (R246): no register changes, the outputs are 0. -/
def execHold (s : State) : Host.Outcome State Fault Refusal := .next s.quiet

/-- LOAD step 3 (R247): the registers, THR from the Symbol of t0, VALID. -/
def loadAccepted (s : State) : Host.Outcome State Fault Refusal :=
  andThen (dispatchAmp (loadRegisters s)) fun s' => .next s'.validate

/-- LOAD (R247): refused while CFG_ERR = 1; the checks in order, then load_sis against FS, each raising CfgError; else the
Synthesis State is initialised. -/
def execLoad (s : State) : Host.Outcome State Fault Refusal :=
  if s.cfgErr then .next s.quiet
  else
    match configError s.cfg with
    | some r => .next (raiseCfgError r s.quiet)
    | none =>
      if s.cfg.fs ≤ s.portLoadSis then .next (raiseCfgError .loadSisRange s.quiet)
      else loadAccepted s.quiet

/-- TICK step 1 (R248, R251): the phase query, protocol B at SIS = PM_OFFSET. -/
def phaseQuery (s : State) : Host.Outcome State Fault Refusal :=
  if s.cfg.proto = .B ∧ s.sis = s.cfg.pmOffset then dispatchPhase s else .next s

/-- The second boundary (R250) in its order: T, SIS, THR, then WTI in protocol B. A T that would leave TW bits is refused
(R21, U6). -/
def secondBoundary (s : State) : Host.Outcome State Fault Refusal :=
  if s.t + 1 < 2 ^ s.cfg.tw then
    andThen (dispatchAmp (nextSecond s)) fun s' => .next (realign s')
  else .refused .timestampOverflow

/-- TICK step 4 (R248): the second boundary when SIS has reached FS. -/
def boundaryIfDue (s : State) : Host.Outcome State Fault Refusal :=
  if s.sis = s.cfg.fs then secondBoundary s else .next s

/-- TICK (R248): with VALID = 0 refused, which changes no register and emits 0; else phase query, emission, advance,
boundary. -/
def execTick (s : State) : Host.Outcome State Fault Refusal :=
  if s.valid then
    andThen (phaseQuery s.quiet) fun s1 =>
    andThen (emitSample s1) fun s2 =>
    boundaryIfDue (advanceIndexes s2)
  else .next s.quiet

end Sys2Proof.Machine
end

