-- ==== Sys2Proof/Machine/Dispatch.lean ====
section
/-! DEFINITION. What each instruction does: one arm per constructor of Instr. -/

namespace Sys2Proof.Machine

def exec (i : Instr) (s : State) : Host.Outcome State Fault Refusal :=
  match i with
  | .mark => Sys2Proof.Machine.execMark s
  | .fzero => Sys2Proof.Machine.execFzero s
  | .fone => Sys2Proof.Machine.execFone s
  | .min40 => Sys2Proof.Machine.execMin40 s
  | .min20 => Sys2Proof.Machine.execMin20 s
  | .min10 => Sys2Proof.Machine.execMin10 s
  | .min8 => Sys2Proof.Machine.execMin8 s
  | .min4 => Sys2Proof.Machine.execMin4 s
  | .min2 => Sys2Proof.Machine.execMin2 s
  | .min1 => Sys2Proof.Machine.execMin1 s
  | .hr20 => Sys2Proof.Machine.execHr20 s
  | .hr10 => Sys2Proof.Machine.execHr10 s
  | .hr8 => Sys2Proof.Machine.execHr8 s
  | .hr4 => Sys2Proof.Machine.execHr4 s
  | .hr2 => Sys2Proof.Machine.execHr2 s
  | .hr1 => Sys2Proof.Machine.execHr1 s
  | .doy200 => Sys2Proof.Machine.execDoy200 s
  | .doy100 => Sys2Proof.Machine.execDoy100 s
  | .doy80 => Sys2Proof.Machine.execDoy80 s
  | .doy40 => Sys2Proof.Machine.execDoy40 s
  | .doy20 => Sys2Proof.Machine.execDoy20 s
  | .doy10 => Sys2Proof.Machine.execDoy10 s
  | .doy8 => Sys2Proof.Machine.execDoy8 s
  | .doy4 => Sys2Proof.Machine.execDoy4 s
  | .doy2 => Sys2Proof.Machine.execDoy2 s
  | .doy1 => Sys2Proof.Machine.execDoy1 s
  | .yr80 => Sys2Proof.Machine.execYr80 s
  | .yr40 => Sys2Proof.Machine.execYr40 s
  | .yr20 => Sys2Proof.Machine.execYr20 s
  | .yr10 => Sys2Proof.Machine.execYr10 s
  | .yr8 => Sys2Proof.Machine.execYr8 s
  | .yr4 => Sys2Proof.Machine.execYr4 s
  | .yr2 => Sys2Proof.Machine.execYr2 s
  | .yr1 => Sys2Proof.Machine.execYr1 s
  | .wd4 => Sys2Proof.Machine.execWd4 s
  | .wd2 => Sys2Proof.Machine.execWd2 s
  | .wd1 => Sys2Proof.Machine.execWd1 s
  | .pa1 => Sys2Proof.Machine.execPa1 s
  | .pa2 => Sys2Proof.Machine.execPa2 s
  | .lyi => Sys2Proof.Machine.execLyi s
  | .dste => Sys2Proof.Machine.execDste s
  | .dsts => Sys2Proof.Machine.execDsts s
  | .pfix0 => Sys2Proof.Machine.execPfix0 s
  | .pfix1 => Sys2Proof.Machine.execPfix1 s
  | .ptime n => Sys2Proof.Machine.execPtime n s
  | .pecc k => Sys2Proof.Machine.execPecc k s
  | .pdst j => Sys2Proof.Machine.execPdst j s
  | .hold => Sys2Proof.Machine.execHold s
  | .tick => Sys2Proof.Machine.execTick s
  | .load => Sys2Proof.Machine.execLoad s

end Sys2Proof.Machine
end

