-- ==== Sys2Proof/Machine/Fetch.lean ====
section
/-! DEFINITION. One clock edge up to the command it carries (45_scheduler.md R245; 60_exceptions.md R277), and how a word is
placed so that the next step runs it (log entry 11). -/

namespace Sys2Proof.Machine

/-- The next clock edge: the ports take what the host drives, or an idle edge when it drives nothing (log entry 8). -/
def State.nextEdge (s : State) : State :=
  match s.stimulus with
  | [] => { s with pins := Pins.idle }
  | p :: rest => { s with pins := p, stimulus := rest }

/-- The word on the `cmd` port (R92: two bits). -/
def State.fetchWord (s : State) : BitVec 8 := s.pins.cmd.setWidth 8

/-- The command on the `cmd` port (R92, R93). -/
def State.fetch (s : State) : Instr := decodeCmd (commandBits s.fetchWord)

/-- An edge with rst_n high that carries the command. -/
def Pins.command (c : CmdCode) (loadT loadSis : Nat) : Pins :=
  { rstN := true, cmd := c, loadT := loadT, loadSis := loadSis }

/-- The host drives `p` at the next edge, before what it drives already. -/
def State.drive (s : State) (p : Pins) : State := { s with stimulus := p :: s.stimulus }

/-- The instant programs P1 and S1 of 95_test_vectors.md start from: 2025-03-09 12:40:00 UTC. -/
def exampleInstant : Nat := 1741524000

/-- The first of three successive instants whose second is neither 0 nor 1, the seconds whose AMP_ROM entry the checks of
LOAD fix (R96). -/
def freeSecond (c : Config) : Nat × Fin 60 :=
  let sec (t : Nat) : Fin 60 :=
    match fieldsAt c t with
    | some f => f.sec
    | none => 0
  let at2 := exampleInstant + 2
  if 2 ≤ (sec at2).val then (at2, sec at2)
  else if 2 ≤ (sec (at2 + 1)).val then (at2 + 1, sec (at2 + 1))
  else (at2 + 2, sec (at2 + 2))

/-- AMP_ROM[PROTO] with one entry replaced. -/
def setAmpRom (c : Config) (sec : Fin 60) (w : DispatchWord) : Config :=
  match c.proto with
  | .A => { c with ampRomA := c.ampRomA.setIfInBounds sec.val w }
  | .B => { c with ampRomB := c.ampRomB.setIfInBounds sec.val w }

/-- An AD word is placed at the entry a LOAD selects (R61: the entry point after LOAD), and the LOAD is driven. -/
def placeAmp (s : State) (w : DispatchWord) : State :=
  let (t0, sec) := freeSecond s.cfg
  { s with cfg := setAmpRom s.cfg sec w, cfgErr := false }.drive (Pins.command 2 t0 0)

/-- A PD word is placed at the entry the phase query of the current second reads (R251): a valid protocol B machine at
SIS = PM_OFFSET of a second outside the windows, and a TICK is driven. -/
def placePhase (s : State) (w : DispatchWord) : State :=
  let t0 := exampleInstant + 6 * 60
  let sec : Fin 60 := match fieldsAt s.cfg t0 with
    | some f => f.sec
    | none => 0
  { s with cfg := { s.cfg with proto := .B, phRom := s.cfg.phRom.setIfInBounds sec.val w }
           valid := true, cfgErr := false, t := t0, sis := s.cfg.pmOffset }.drive (Pins.command 1 0 0)

/-- A command is driven on the `cmd` port; LOAD's operands are the example instant and sample 0. -/
def placeCommand (s : State) (c : CmdCode) : State := s.drive (Pins.command c exampleInstant 0)

/-- Stores the table word `w` where the next step runs it, under the format `decodeTableWord` reads it in. -/
def placeTableWord (s : State) (nbits w : Nat) : State :=
  match tableFormat nbits w with
  | some .ad => placeAmp s (BitVec.ofNat 8 w)
  | some .pd => placePhase s (BitVec.ofNat 8 w)
  | some .cmd => placeCommand s (commandBits (BitVec.ofNat 8 w))
  | none => s

end Sys2Proof.Machine
end

