-- ==== Sys2Proof/Machine/Step.lean ====
section
/-! DEFINITION. One step of the machine: one rising edge of the sample clock (45_scheduler.md R245). -/

namespace Sys2Proof.Machine

/-- One clock edge: rst_n low wins over any command (60_exceptions.md R277, 70_reset_and_hazards.md R300); otherwise the
command on the `cmd` port executes alone. -/
def step (s : State) : Host.Outcome State Fault Refusal :=
  if s.nextEdge.pins.rstN then exec s.nextEdge.fetch s.nextEdge else .next (hardwareReset s.nextEdge)

/-- `s` with a table word stored where step runs it next (log entry 11). -/
def State.withFetchWord (s : State) (nbits w : Nat) : State := placeTableWord s nbits w

end Sys2Proof.Machine
end

