-- ==== Sys2Proof/Safety.lean ====
section
/-! DEFINITION. The terms claims are stated in: the functions Sym(T) and PH(T) of the spec, the invariant of a loaded
machine (10_state.md R35), what is assumed of ZONE and of the tables, and batches of TICKs (45_scheduler.md R254). -/

namespace Sys2Proof.Machine

/-- The Symbol an amplitude entry gives in a second with the fields `f` (42_symbol_dispatch.md R181 to R183, R188). -/
def symbolOf (i : Instr) (f : Fields) : Option Symbol :=
  match i with
  | .mark => some .mark
  | .fzero => some .zero
  | .fone => some .one
  | .min40 => some (symbolOfBit (bitMin40 f))
  | .min20 => some (symbolOfBit (bitMin20 f))
  | .min10 => some (symbolOfBit (bitMin10 f))
  | .min8 => some (symbolOfBit (bitMin8 f))
  | .min4 => some (symbolOfBit (bitMin4 f))
  | .min2 => some (symbolOfBit (bitMin2 f))
  | .min1 => some (symbolOfBit (bitMin1 f))
  | .hr20 => some (symbolOfBit (bitHr20 f))
  | .hr10 => some (symbolOfBit (bitHr10 f))
  | .hr8 => some (symbolOfBit (bitHr8 f))
  | .hr4 => some (symbolOfBit (bitHr4 f))
  | .hr2 => some (symbolOfBit (bitHr2 f))
  | .hr1 => some (symbolOfBit (bitHr1 f))
  | .doy200 => some (symbolOfBit (bitDoy200 f))
  | .doy100 => some (symbolOfBit (bitDoy100 f))
  | .doy80 => some (symbolOfBit (bitDoy80 f))
  | .doy40 => some (symbolOfBit (bitDoy40 f))
  | .doy20 => some (symbolOfBit (bitDoy20 f))
  | .doy10 => some (symbolOfBit (bitDoy10 f))
  | .doy8 => some (symbolOfBit (bitDoy8 f))
  | .doy4 => some (symbolOfBit (bitDoy4 f))
  | .doy2 => some (symbolOfBit (bitDoy2 f))
  | .doy1 => some (symbolOfBit (bitDoy1 f))
  | .yr80 => some (symbolOfBit (bitYr80 f))
  | .yr40 => some (symbolOfBit (bitYr40 f))
  | .yr20 => some (symbolOfBit (bitYr20 f))
  | .yr10 => some (symbolOfBit (bitYr10 f))
  | .yr8 => some (symbolOfBit (bitYr8 f))
  | .yr4 => some (symbolOfBit (bitYr4 f))
  | .yr2 => some (symbolOfBit (bitYr2 f))
  | .yr1 => some (symbolOfBit (bitYr1 f))
  | .wd4 => some (symbolOfBit (bitWd4 f))
  | .wd2 => some (symbolOfBit (bitWd2 f))
  | .wd1 => some (symbolOfBit (bitWd1 f))
  | .pa1 => some (symbolOfBit (bitPa1 f))
  | .pa2 => some (symbolOfBit (bitPa2 f))
  | .lyi => some (symbolOfBit (bitLyi f))
  | .dste => some (symbolOfBit (bitDste f))
  | .dsts => some (symbolOfBit (bitDsts f))
  | .pfix0 => none
  | .pfix1 => none
  | .ptime _ => none
  | .pecc _ => none
  | .pdst _ => none
  | .hold => none
  | .tick => none
  | .load => none

/-- Sym(T) (R180). -/
def symbolAt (c : Config) (t : Nat) : Option Symbol :=
  match fieldsAt c t with
  | none => none
  | some f =>
    match decode .ad (readAmpRom c f.sec) with
    | .ok i => symbolOf i f
    | .error _ => none

/-- The Phase Symbol a phase entry gives in a second with the fields `f` (43_phase_overlay.md R204 to R209). -/
def phaseOf (i : Instr) (c : Config) (f : Fields) : Option Bool :=
  match i with
  | .mark => none
  | .fzero => none
  | .fone => none
  | .min40 => none
  | .min20 => none
  | .min10 => none
  | .min8 => none
  | .min4 => none
  | .min2 => none
  | .min1 => none
  | .hr20 => none
  | .hr10 => none
  | .hr8 => none
  | .hr4 => none
  | .hr2 => none
  | .hr1 => none
  | .doy200 => none
  | .doy100 => none
  | .doy80 => none
  | .doy40 => none
  | .doy20 => none
  | .doy10 => none
  | .doy8 => none
  | .doy4 => none
  | .doy2 => none
  | .doy1 => none
  | .yr80 => none
  | .yr40 => none
  | .yr20 => none
  | .yr10 => none
  | .yr8 => none
  | .yr4 => none
  | .yr2 => none
  | .yr1 => none
  | .wd4 => none
  | .wd2 => none
  | .wd1 => none
  | .pa1 => none
  | .pa2 => none
  | .lyi => none
  | .dste => none
  | .dsts => none
  | .pfix0 => some false
  | .pfix1 => some true
  | .ptime n => some (phaseTime n c f)
  | .pecc k => some (phaseEcc k c f)
  | .pdst j => some (phaseDst j c f)
  | .hold => none
  | .tick => none
  | .load => none

/-- PH(T) (R200 to R202). -/
def phaseAt (c : Config) (t : Nat) : Option Bool :=
  match fieldsAt c t with
  | none => none
  | some f =>
    if inWindow f then some (windowBit c f)
    else
      match decode .pd (readPhRom c f.sec) with
      | .ok i => phaseOf i c f
      | .error _ => none

/-- R112 (b) at the instant `t`: local time is not negative. -/
def ZoneFits (c : Config) (t : Nat) : Prop := 0 ≤ (t : Int) + zoneUtcoff c.zone t

/-- Both wavetables have TLEN entries (20_memory.md R51). -/
def TablesSized (c : Config) : Prop := c.highTable.length = c.tlen ∧ c.lowTable.length = c.tlen

/-- LOW_TABLE is what R234 populates it with. -/
def LowPopulated (c : Config) : Prop := c.lowTable = populateLow c.lowRatioNum c.lowRatioDen c.highTable

/-- What R232 and R234 give of the wavetables: TLEN entries, those of HIGH_TABLE at most AMP in absolute value, and
LOW_TABLE populated from it. -/
def TablesPopulated (c : Config) : Prop :=
  TablesSized c ∧ LowPopulated c ∧ ∀ h ∈ c.highTable, -(c.amp : Int) ≤ h ∧ h ≤ (c.amp : Int)

/-- R236 on HIGH_TABLE: the rotated entry is the negative. -/
def HighTableInverts (c : Config) : Prop :=
  ∀ i, i < c.tlen → c.highTable[(i + c.rot) % c.tlen]? = c.highTable[i]?.map (fun h => -h)

/-- R35, with the width of T (R21): what holds of every loaded state. -/
structure Loaded (s : State) : Prop where
  config : configError s.cfg = none
  noError : s.cfgErr = false
  tWidth : s.t < 2 ^ s.cfg.tw
  sisRange : s.sis < s.cfg.fs
  wtiRange : s.wti < s.cfg.tlen
  threshold : ∃ y, symbolAt s.cfg s.t = some y ∧ s.thr = readThreshold s.cfg y
  phaseOffset : s.poff = 0 ∨ s.poff = s.cfg.rot
  protocolA : s.cfg.proto = .A → s.poff = 0

/-- The invariant of the machine: VALID = 1 only in a loaded state. -/
def StateInv (s : State) : Prop := s.valid = true → Loaded s

/-- Does the TICK in this state query the phase (R251)? -/
def QueriesPhase (s : State) : Prop := s.cfg.proto = .B ∧ s.sis = s.cfg.pmOffset

/-- `advance(n)`: n consecutive TICKs (R254). -/
def advance : Nat → State → Host.Outcome State Fault Refusal
  | 0, s => .next s
  | n + 1, s => andThen (exec .tick s) (advance n)

/-- `s` with THR at the threshold of the Symbol of the boolean `b` (R188, R252). -/
def withBit (s : State) (b : Bool) : State := { s with thr := readThreshold s.cfg (if b then .one else .zero) }

/-- `s` with POFF at the offset of the Phase Symbol `b` (R251). -/
def withPhase (s : State) (b : Bool) : State := { s with poff := if b then s.cfg.rot else 0 }

/-- The state after one sample of a second: outputs, WTI and SIS (R248 steps 2 and 3). -/
def afterSample (s : State) (v : Int) : State :=
  { s with sampleO := v, ampO := decide (ampLevel s = .high), wti := (s.wti + 1) % s.cfg.tlen, sis := s.sis + 1 }

end Sys2Proof.Machine
end

