-- ==== Sys2Proof/Certificates/Slice0/Obligations.lean ====
section
/-! DEFINITION. The statements for the provers. Each docstring names the rules of spec/ it rests on; where a clause is the
model's own choice, it names the log entry. -/

open Sys2Proof Sys2Proof.Machine

/-! ### Encoding -/

/-- Decoding an encoded well-formed instruction gives it back (R83, R84, R89, R92). -/
def Obligations.DecodeOfEncode : Prop :=
  ∀ i : Instr, i.wellFormed = true → decode i.format (encode i) = .ok i

/-- What a word decodes to is well formed, of that format, and encodes to that word, but for the reserved command 0b11,
which decodes to HOLD (R93, R99). -/
def Obligations.EncodeOfDecode : Prop :=
  ∀ (f : Format) (w : BitVec 8) (i : Instr), decode f w = .ok i →
    i.wellFormed = true ∧ i.format = f ∧ (encode i = w ∨ (f = .cmd ∧ w = 3#8 ∧ i = .hold))

/-- The reserved AD words are exactly those R86 lists, the reserved PD words exactly those R91 lists. -/
def Obligations.ReservedDispatchWords : Prop :=
  ∀ w : DispatchWord,
    ((∃ e, decode .ad w = .error e) ↔
      (0x01 ≤ w.toNat ∧ w.toNat ≤ 0x3F) ∨ (0x41 ≤ w.toNat ∧ w.toNat ≤ 0x7F) ∨ (0x81 ≤ w.toNat ∧ w.toNat ≤ 0xBF) ∨
      w.toNat = 0xC7 ∨ w.toNat = 0xCE ∨ w.toNat = 0xCF ∨ (0xDA ≤ w.toNat ∧ w.toNat ≤ 0xDF) ∨
      (0xEB ≤ w.toNat ∧ w.toNat ≤ 0xEF) ∨ (0xF2 ≤ w.toNat ∧ w.toNat ≤ 0xF7) ∨ 0xFB ≤ w.toNat) ∧
    ((∃ e, decode .pd w = .error e) ↔
      0xA0 ≤ w.toNat ∨ (0x01 ≤ w.toNat ∧ w.toNat ≤ 0x1F) ∨ (0x21 ≤ w.toNat ∧ w.toNat ≤ 0x3F) ∨
      (0x5A ≤ w.toNat ∧ w.toNat ≤ 0x5F) ∨ (0x65 ≤ w.toNat ∧ w.toNat ≤ 0x7F) ∨ (0x82 ≤ w.toNat ∧ w.toNat ≤ 0x9F))

/-- Words of 30_encoding.md, one per family, and what they stand for (R82, R84, R88, R89, R92). -/
def Obligations.SpecWordsDecode : Prop :=
  decode .ad 0b00000000#8 = .ok .mark ∧ decode .ad 0b01000000#8 = .ok .fzero ∧ decode .ad 0b10000000#8 = .ok .fone ∧
  decode .ad 0b11000000#8 = .ok .min40 ∧ decode .ad 0b11001101#8 = .ok .hr1 ∧ decode .ad 0b11010000#8 = .ok .doy200 ∧
  decode .ad 0b11100111#8 = .ok .yr1 ∧ decode .ad 0b11101001#8 = .ok .wd2 ∧ decode .ad 0b11110001#8 = .ok .pa2 ∧
  decode .ad 0b11111000#8 = .ok .lyi ∧ decode .ad 0b11111001#8 = .ok .dste ∧
  decode .pd 0b00100000#8 = .ok .pfix1 ∧ decode .pd 0b01011001#8 = .ok (.ptime 25) ∧
  decode .pd 0b01100100#8 = .ok (.pecc 4) ∧ decode .pd 0b10000001#8 = .ok (.pdst 1) ∧
  decode .cmd 0b01#8 = .ok .tick ∧ decode .cmd 0b10#8 = .ok .load

/-! ### One step -/

/-- A step at an edge with rst_n high is `exec` of the decoded command at that edge, and nothing else; the edge takes its
ports from what the host drives, or is idle (R245, R277; log entry 8 for the queue of edges). -/
def Obligations.StepRunsTheCommand : Prop :=
  ∀ (s : State) (i : Instr), s.nextEdge.pins.rstN = true → decode .cmd s.nextEdge.fetchWord = .ok i →
    step s = exec i s.nextEdge ∧
    (s.stimulus = [] → s.nextEdge = { s with pins := ⟨true, 0, 0, 0⟩ }) ∧
    (∀ p rest, s.stimulus = p :: rest → s.nextEdge = { s with pins := p, stimulus := rest })

/-- An edge with rst_n low resets the block whatever the command is: VALID, CFG_ERR and the outputs are 0, cont_o is 1, CFG
and what the host drives later are untouched (R300, R277). T stays within its width whatever the free values are (the
model's choice, log entry 7). -/
def Obligations.LowResetWins : Prop :=
  ∀ s : State, s.nextEdge.pins.rstN = false →
    ∃ u, step s = .next u ∧ u.valid = false ∧ u.cfgErr = false ∧ u.sampleO = 0 ∧ u.ampO = false ∧ u.contO = true ∧
      u.t < 2 ^ s.cfg.tw ∧ u.cfg = s.cfg ∧ u.stimulus = s.nextEdge.stimulus ∧ u.pins = s.nextEdge.pins

/-- What reset leaves that the spec gives: VALID, CFG_ERR and the outputs 0, cont_o 1 (R36, R300). -/
def Obligations.ResetValues : Prop :=
  State.reset.valid = false ∧ State.reset.cfgErr = false ∧ State.reset.sampleO = 0 ∧ State.reset.ampO = false ∧
  State.reset.contO = true ∧ State.reset.validO = false ∧ State.reset.cfgErrO = false

/-! ### Civil time -/

/-- The time of day, the weekday and the day number of an instant (R113, R114); (Y, DOY) is that of the day number (R117).
That the DST predicates (R119) are answers keyed by the day number is the model's form of R112 (c), log entry 3. -/
def Obligations.LocalTimeFields : Prop :=
  ∀ (c : Config) (t : Nat) (f : Fields), fieldsAt c t = some f →
    let l : Int := (t : Int) + zoneUtcoff c.zone t
    (f.sec.val : Int) = l % 60 ∧ (f.min : Int) = l / 60 % 60 ∧ (f.hour : Int) = l / 3600 % 24 ∧
    (f.wd : Int) = (l / 86400 + 4) % 7 ∧
    f.dsts = (zoneDst c.zone (l / 86400).toNat).dayStart ∧ f.dste = (zoneDst c.zone (l / 86400).toNat).dayEnd ∧
    (f.year, f.doy) = yearAndDay (l / 86400).toNat

/-- Y and DOY are the integers of R117, and the only ones. -/
def Obligations.YearAndDayUnique : Prop :=
  ∀ d y doy : Nat,
    (1970 ≤ y ∧ 1 ≤ doy ∧ doy ≤ ylen y ∧ d = daysFrom 1970 (y - 1970) + (doy - 1)) ↔ yearAndDay d = (y, doy)

/-- Every field lies in its range and no derivation fails, where ZONE keeps local time non-negative (R121). -/
def Obligations.FieldRanges : Prop :=
  ∀ (c : Config) (t : Nat), ZoneFits c t →
    ∃ f, fieldsAt c t = some f ∧ f.sec.val ≤ 59 ∧ f.min ≤ 59 ∧ f.hour ≤ 23 ∧ 1 ≤ f.doy ∧ f.doy ≤ 366 ∧
      yearInCentury f ≤ 99 ∧ f.wd ≤ 6

/-- MOC is at most 52595999, so 26 bits hold it (R120). -/
def Obligations.MinuteOfCenturyBound : Prop :=
  ∀ (c : Config) (t : Nat) (f : Fields), fieldsAt c t = some f →
    minuteOfCentury f ≤ 52595999 ∧ minuteOfCentury f < 2 ^ 26

/-- Two instants of one local minute have the same fields but for SEC (R188, R190). -/
def Obligations.FieldsWithinMinute : Prop :=
  ∀ (c : Config) (t t' : Nat) (f f' : Fields), fieldsAt c t = some f → fieldsAt c t' = some f' →
    ((t : Int) + zoneUtcoff c.zone t) / 60 = ((t' : Int) + zoneUtcoff c.zone t') / 60 →
    f' = { f with sec := f'.sec }

/-! ### Calendar Bit Functions -/

/-- The weights a field transmits, summed where their bits are true, give the field back (R132). -/
def Obligations.BcdRoundTrip : Prop :=
  ∀ (c : Config) (t : Nat) (f : Fields), fieldsAt c t = some f →
    40 * (bitMin40 f).toNat + 20 * (bitMin20 f).toNat + 10 * (bitMin10 f).toNat + 8 * (bitMin8 f).toNat +
      4 * (bitMin4 f).toNat + 2 * (bitMin2 f).toNat + (bitMin1 f).toNat = f.min ∧
    20 * (bitHr20 f).toNat + 10 * (bitHr10 f).toNat + 8 * (bitHr8 f).toNat + 4 * (bitHr4 f).toNat +
      2 * (bitHr2 f).toNat + (bitHr1 f).toNat = f.hour ∧
    200 * (bitDoy200 f).toNat + 100 * (bitDoy100 f).toNat + 80 * (bitDoy80 f).toNat + 40 * (bitDoy40 f).toNat +
      20 * (bitDoy20 f).toNat + 10 * (bitDoy10 f).toNat + 8 * (bitDoy8 f).toNat + 4 * (bitDoy4 f).toNat +
      2 * (bitDoy2 f).toNat + (bitDoy1 f).toNat = f.doy ∧
    80 * (bitYr80 f).toNat + 40 * (bitYr40 f).toNat + 20 * (bitYr20 f).toNat + 10 * (bitYr10 f).toNat +
      8 * (bitYr8 f).toNat + 4 * (bitYr4 f).toNat + 2 * (bitYr2 f).toNat + (bitYr1 f).toNat = yearInCentury f ∧
    4 * (bitWd4 f).toNat + 2 * (bitWd2 f).toNat + (bitWd1 f).toNat = f.wd

/-- The hour bits with PA1 and the minute bits with PA2 hold an even number of ones (R172). -/
def Obligations.EvenParity : Prop :=
  ∀ f : Fields,
    (bitPa1 f ^^ bitHr20 f ^^ bitHr10 f ^^ bitHr8 f ^^ bitHr4 f ^^ bitHr2 f ^^ bitHr1 f) = false ∧
    (bitPa2 f ^^ bitMin40 f ^^ bitMin20 f ^^ bitMin10 f ^^ bitMin8 f ^^ bitMin4 f ^^ bitMin2 f ^^ bitMin1 f) = false

/-- The fixed entries: MARK, FZERO and FONE write the threshold of their Symbol whatever T is, and nothing else (R181,
R182, R183, R252). That an entry run alone writes THR is the model's reading of R191, log entry 9; the same holds of every
statement on an amplitude entry below. -/
def Obligations.FixedEntries : Prop :=
  ∀ s : State,
    exec .mark s = .next { s with thr := readThreshold s.cfg .mark } ∧
    exec .fzero s = .next { s with thr := readThreshold s.cfg .zero } ∧
    exec .fone s = .next { s with thr := readThreshold s.cfg .one }

/-- The seven minute entries: their words, and the threshold of the Symbol of their bit, nothing else (R133 to R139; THR
by log entry 9). -/
def Obligations.MinuteEntries : Prop :=
  (decode .ad 0xC0 = .ok .min40 ∧ decode .ad 0xC1 = .ok .min20 ∧ decode .ad 0xC2 = .ok .min10 ∧
    decode .ad 0xC3 = .ok .min8 ∧ decode .ad 0xC4 = .ok .min4 ∧ decode .ad 0xC5 = .ok .min2 ∧
    decode .ad 0xC6 = .ok .min1) ∧
  ∀ (s : State) (f : Fields), fieldsAt s.cfg s.t = some f →
    exec .min40 s = .next (withBit s (decide (40 ≤ f.min))) ∧
    exec .min20 s = .next (withBit s (decide (20 ≤ f.min % 40))) ∧
    exec .min10 s = .next (withBit s (decide (10 ≤ f.min % 20))) ∧
    exec .min8 s = .next (withBit s (decide (8 ≤ f.min % 10))) ∧
    exec .min4 s = .next (withBit s (decide (4 ≤ f.min % 10 % 8))) ∧
    exec .min2 s = .next (withBit s (decide (2 ≤ f.min % 10 % 4))) ∧
    exec .min1 s = .next (withBit s (decide (f.min % 2 = 1)))

/-- The six hour entries (R140 to R145; THR by log entry 9). -/
def Obligations.HourEntries : Prop :=
  (decode .ad 0xC8 = .ok .hr20 ∧ decode .ad 0xC9 = .ok .hr10 ∧ decode .ad 0xCA = .ok .hr8 ∧
    decode .ad 0xCB = .ok .hr4 ∧ decode .ad 0xCC = .ok .hr2 ∧ decode .ad 0xCD = .ok .hr1) ∧
  ∀ (s : State) (f : Fields), fieldsAt s.cfg s.t = some f →
    exec .hr20 s = .next (withBit s (decide (20 ≤ f.hour))) ∧
    exec .hr10 s = .next (withBit s (decide (10 ≤ f.hour % 20))) ∧
    exec .hr8 s = .next (withBit s (decide (8 ≤ f.hour % 10))) ∧
    exec .hr4 s = .next (withBit s (decide (4 ≤ f.hour % 10 % 8))) ∧
    exec .hr2 s = .next (withBit s (decide (2 ≤ f.hour % 10 % 4))) ∧
    exec .hr1 s = .next (withBit s (decide (f.hour % 2 = 1)))

/-- The ten day-of-year entries (R146 to R155; THR by log entry 9). -/
def Obligations.DayOfYearEntries : Prop :=
  (decode .ad 0xD0 = .ok .doy200 ∧ decode .ad 0xD1 = .ok .doy100 ∧ decode .ad 0xD2 = .ok .doy80 ∧
    decode .ad 0xD3 = .ok .doy40 ∧ decode .ad 0xD4 = .ok .doy20 ∧ decode .ad 0xD5 = .ok .doy10 ∧
    decode .ad 0xD6 = .ok .doy8 ∧ decode .ad 0xD7 = .ok .doy4 ∧ decode .ad 0xD8 = .ok .doy2 ∧
    decode .ad 0xD9 = .ok .doy1) ∧
  ∀ (s : State) (f : Fields), fieldsAt s.cfg s.t = some f →
    exec .doy200 s = .next (withBit s (decide (200 ≤ f.doy))) ∧
    exec .doy100 s = .next (withBit s (decide (100 ≤ f.doy % 200))) ∧
    exec .doy80 s = .next (withBit s (decide (80 ≤ f.doy % 100))) ∧
    exec .doy40 s = .next (withBit s (decide (40 ≤ f.doy % 100 % 80))) ∧
    exec .doy20 s = .next (withBit s (decide (20 ≤ f.doy % 100 % 40))) ∧
    exec .doy10 s = .next (withBit s (decide (10 ≤ f.doy % 100 % 20))) ∧
    exec .doy8 s = .next (withBit s (decide (8 ≤ f.doy % 10))) ∧
    exec .doy4 s = .next (withBit s (decide (4 ≤ f.doy % 10 % 8))) ∧
    exec .doy2 s = .next (withBit s (decide (2 ≤ f.doy % 10 % 4))) ∧
    exec .doy1 s = .next (withBit s (decide (f.doy % 2 = 1)))

/-- The eight year entries, on YY = Y mod 100 (R118, R156 to R163; THR by log entry 9). -/
def Obligations.YearEntries : Prop :=
  (decode .ad 0xE0 = .ok .yr80 ∧ decode .ad 0xE1 = .ok .yr40 ∧ decode .ad 0xE2 = .ok .yr20 ∧
    decode .ad 0xE3 = .ok .yr10 ∧ decode .ad 0xE4 = .ok .yr8 ∧ decode .ad 0xE5 = .ok .yr4 ∧
    decode .ad 0xE6 = .ok .yr2 ∧ decode .ad 0xE7 = .ok .yr1) ∧
  ∀ (s : State) (f : Fields), fieldsAt s.cfg s.t = some f →
    exec .yr80 s = .next (withBit s (decide (80 ≤ f.year % 100))) ∧
    exec .yr40 s = .next (withBit s (decide (40 ≤ f.year % 100 % 80))) ∧
    exec .yr20 s = .next (withBit s (decide (20 ≤ f.year % 100 % 40))) ∧
    exec .yr10 s = .next (withBit s (decide (10 ≤ f.year % 100 % 20))) ∧
    exec .yr8 s = .next (withBit s (decide (8 ≤ f.year % 100 % 10))) ∧
    exec .yr4 s = .next (withBit s (decide (4 ≤ f.year % 100 % 10 % 8))) ∧
    exec .yr2 s = .next (withBit s (decide (2 ≤ f.year % 100 % 10 % 4))) ∧
    exec .yr1 s = .next (withBit s (decide (f.year % 100 % 2 = 1)))

/-- The three weekday entries (R164 to R166; THR by log entry 9). -/
def Obligations.WeekdayEntries : Prop :=
  (decode .ad 0xE8 = .ok .wd4 ∧ decode .ad 0xE9 = .ok .wd2 ∧ decode .ad 0xEA = .ok .wd1) ∧
  ∀ (s : State) (f : Fields), fieldsAt s.cfg s.t = some f →
    exec .wd4 s = .next (withBit s (decide (4 ≤ f.wd))) ∧
    exec .wd2 s = .next (withBit s (decide (2 ≤ f.wd % 4))) ∧
    exec .wd1 s = .next (withBit s (decide (f.wd % 2 = 1)))

/-- The two parity entries: ONE exactly when an odd number of the field's bits are one (R167, R168; THR by log entry
9). -/
def Obligations.ParityEntries : Prop :=
  (decode .ad 0xF0 = .ok .pa1 ∧ decode .ad 0xF1 = .ok .pa2) ∧
  ∀ (s : State) (f : Fields), fieldsAt s.cfg s.t = some f →
    exec .pa1 s = .next (withBit s (decide (
      ([bitHr20 f, bitHr10 f, bitHr8 f, bitHr4 f, bitHr2 f, bitHr1 f].count true) % 2 = 1))) ∧
    exec .pa2 s = .next (withBit s (decide (
      ([bitMin40 f, bitMin20 f, bitMin10 f, bitMin8 f, bitMin4 f, bitMin2 f, bitMin1 f].count true) % 2 = 1)))

/-- The leap-year entry: the Gregorian rule on the full local year (R115, R169; THR by log entry 9). -/
def Obligations.LeapYearEntry : Prop :=
  decode .ad 0xF8 = .ok .lyi ∧
  ∀ (s : State) (f : Fields), fieldsAt s.cfg s.t = some f →
    exec .lyi s = .next (withBit s (decide (f.year % 4 = 0 ∧ (f.year % 100 ≠ 0 ∨ f.year % 400 = 0))))

/-- The two DST entries: ZONE's answers about the end and the start of the local day (R119, R170, R171; THR by log
entry 9). -/
def Obligations.DstEntries : Prop :=
  (decode .ad 0xF9 = .ok .dste ∧ decode .ad 0xFA = .ok .dsts) ∧
  ∀ s : State, ZoneFits s.cfg s.t →
    let day := (((s.t : Int) + zoneUtcoff s.cfg.zone s.t) / 86400).toNat
    exec .dste s = .next (withBit s (zoneDst s.cfg.zone day).dayEnd) ∧
    exec .dsts s = .next (withBit s (zoneDst s.cfg.zone day).dayStart)

/-- Where ZONE makes local time negative, an entry that reads T is refused by name (R112 (b), U2; the model's choice, log
entry 4): the VAR entries shown, and PTIME, PECC and PDST with an operand in range. -/
def Obligations.NegativeLocalTimeRefused : Prop :=
  ∀ (s : State) (i : Instr), (s.t : Int) + zoneUtcoff s.cfg.zone s.t < 0 → i.wellFormed = true →
    i.format ≠ .cmd → i ∉ [Instr.mark, .fzero, .fone, .pfix0, .pfix1] → exec i s = .refused .zoneConstraint

/-! ### The Second Symbol Table -/

/-- The table at T runs the entry AMP_ROM[PROTO][SEC] by the meaning its instruction has, and asks ZONE about T (R180,
R111; zq_t as a list is log entry 19). -/
def Obligations.AmplitudeDispatchRunsEntry : Prop :=
  ∀ (s : State) (f : Fields) (i : Instr), fieldsAt s.cfg s.t = some f → decode .ad (readAmpRom s.cfg f.sec) = .ok i →
    dispatchAmp s = exec i { s with zq := s.zq ++ [s.t] }

/-- In both default tables the MARK seconds are 0, 9, 19, 29, 39, 49 and 59 (R189). -/
def Obligations.DefaultMarkSeconds : Prop :=
  ∀ sec : Fin 60,
    (decode .ad (defaultAmpRomA[sec.val]'(Nat.lt_succ_of_lt sec.isLt)) = .ok .mark ↔
      sec.val ∈ [0, 9, 19, 29, 39, 49, 59]) ∧
    (decode .ad (defaultAmpRomB[sec.val]'(Nat.lt_succ_of_lt sec.isLt)) = .ok .mark ↔
      sec.val ∈ [0, 9, 19, 29, 39, 49, 59])

/-! ### The Phase-Overlay Encoder -/

/-- The fixed phase entries (R204, R206): their words, POFF 0 and ROT whatever T is, nothing else. That a phase entry run
alone writes POFF is the model's reading of R218, log entry 9; the same holds of every statement on a phase entry below. -/
def Obligations.FixedPhaseEntries : Prop :=
  (decode .pd 0x00 = .ok .pfix0 ∧ decode .pd 0x20 = .ok .pfix1) ∧
  ∀ s : State, exec .pfix0 s = .next (withPhase s false) ∧ exec .pfix1 s = .next (withPhase s true)

/-- PTIME n gives bit n of MOC (R205; POFF by log entry 9). -/
def Obligations.TimeBitEntry : Prop :=
  ∀ (s : State) (f : Fields) (n : Nat), fieldsAt s.cfg s.t = some f → n ≤ 25 →
    decode .pd (0x40#8 + BitVec.ofNat 8 n) = .ok (.ptime n) ∧
    exec (.ptime n) s = .next (withPhase s (decide (minuteOfCentury f / 2 ^ n % 2 = 1)))

/-- PECC k: with the covered time bits, that is the bits i of MOC, 1 <= i <= 25, whose index has bit k set, the Phase
Symbol makes the number of ones odd when ECC_ODD = 1 and even when ECC_ODD = 0 (R208; POFF by log entry 9). -/
def Obligations.ParityOverlayEntry : Prop :=
  ∀ (s : State) (f : Fields) (k : Nat), fieldsAt s.cfg s.t = some f → k ≤ 4 →
    ∃ ph : Bool, exec (.pecc k) s = .next (withPhase s ph) ∧
      (((List.range' 1 25).filter fun i => i.testBit k && (minuteOfCentury f).testBit i).length + ph.toNat) % 2 =
        s.cfg.eccOdd.toNat

/-- PDST j gives DSTLS[j][DSTE][DSTS] (R209; POFF by log entry 9). -/
def Obligations.DstCompositeEntry : Prop :=
  ∀ (s : State) (f : Fields) (j : Nat), fieldsAt s.cfg s.t = some f → j ≤ 1 →
    decode .pd (0x80#8 + BitVec.ofNat 8 j) = .ok (.pdst j) ∧
    exec (.pdst j) s = .next (withPhase s (readDstls s.cfg j f.dste f.dsts))

/-- A phase entry with an operand outside its range is a reserved word (R91) and stops by name (the model's choice, log
entry 18). -/
def Obligations.ReservedOperandStops : Prop :=
  ∀ (s : State) (n : Nat),
    (25 < n → exec (.ptime n) s = .fault .reservedPhaseWord) ∧
    (4 < n → exec (.pecc n) s = .fault .reservedPhaseWord) ∧
    (1 < n → exec (.pdst n) s = .fault .reservedPhaseWord)

/-- The phase function at T: inside a window the window's bit, outside the entry PH_ROM[SEC] by the meaning its instruction
has; it asks ZONE about T (R200, R201, R202; POFF by log entry 9, zq_t by log entry
19). -/
def Obligations.PhaseDispatchRunsEntry : Prop :=
  ∀ (s : State) (f : Fields), fieldsAt s.cfg s.t = some f →
    ((10 ≤ f.min % 30 ∧ f.min % 30 ≤ 15) →
      dispatchPhase s = .next (withPhase { s with zq := s.zq ++ [s.t] } (windowBit s.cfg f))) ∧
    (¬(10 ≤ f.min % 30 ∧ f.min % 30 ≤ 15) → ∀ i, decode .pd (readPhRom s.cfg f.sec) = .ok i →
      dispatchPhase s = exec i { s with zq := s.zq ++ [s.t] })

/-- Inside a window every index stays inside its table: SeqBit's in 0 .. 126, TIMING_WORD's in 0 .. 105, for every value of
the two DST predicates (R215). -/
def Obligations.WindowIndexBounds : Prop :=
  ∀ (c : Config) (f : Fields), inWindow f = true →
    subFrame f ≤ 359 ∧ descendingIndex c f ≤ 126 ∧ ascendingIndex c f ≤ 126 ∧
    (127 ≤ subFrame f → subFrame f < 233 → subFrame f - 127 ≤ 105)

/-- The Phase Symbol of a window second by its sub-frame offset t = (MIN mod 10) * 60 + SEC: a descending lookup, the timing
word, an ascending lookup, with HHI = HOUR * 4 + MIN div 17 + HH_OFFSET[DSTE][DSTS] (R211 to R214). -/
def Obligations.WindowSymbol : Prop :=
  ∀ (c : Config) (f : Fields) (t : Nat) (hhi : Int), inWindow f = true → t = f.min % 10 * 60 + f.sec.val →
    hhi = (f.hour : Int) * 4 + ((f.min / 17 : Nat) : Int) + readHhOffset c f.dste f.dsts →
    (t < 127 → windowBit c f = seqBit c ((hhi + 126 - (t : Int)) % 127).toNat) ∧
    (127 ≤ t → t < 233 → windowBit c f = c.timingWord.getLsbD (t - 127)) ∧
    (233 ≤ t → windowBit c f = seqBit c ((hhi + (t : Int) - 233) % 127).toNat)

/-- The third sub-range is the first read backwards in time (R213): two seconds of one window whose offsets add up to 359,
outside the timing word, have the same Phase Symbol. -/
def Obligations.WindowMirror : Prop :=
  ∀ (c : Config) (f g : Fields), inWindow f = true → inWindow g = true → f.hour = g.hour → f.min / 30 = g.min / 30 →
    f.min ≤ 59 → g.min ≤ 59 → f.dste = g.dste → f.dsts = g.dsts → subFrame f < 127 → subFrame f + subFrame g = 359 →
    windowBit c f = windowBit c g

/-! ### The wavetable -/

/-- LOW_TABLE populated by R234 has as many entries as HIGH_TABLE (R51) and inverts under the rotation where HIGH_TABLE
does (R236). -/
def Obligations.LowTableInverts : Prop :=
  ∀ c : Config, LowPopulated c →
    c.lowTable.length = c.highTable.length ∧
    (HighTableInverts c → ∀ i, i < c.tlen → c.lowTable[(i + c.rot) % c.tlen]? = c.lowTable[i]?.map (fun h => -h))

/-- A well-formed protocol B configuration with the default rotation has TLEN even and CYCLES odd (R236; the
check as log entry 14 reads it). -/
def Obligations.RotationIsHalfCycle : Prop :=
  ∀ c : Config, configError c = none → c.proto = .B → c.rot = c.tlen / 2 → c.tlen % 2 = 0 ∧ cycles c % 2 = 1

/-! ### Commands -/

/-- HOLD changes no register and puts 0 on the outputs (R246); ZONE is not asked (R65), so zq is empty. -/
def Obligations.HoldKeepsRegisters : Prop :=
  decode .cmd 0b00#8 = .ok .hold ∧
  ∀ s : State, exec .hold s = .next { s with sampleO := 0, ampO := false, zq := [] }

/-- A LOAD that finds the configuration well formed and s0 below FS initialises the Synthesis State: T, SIS, WTI, POFF, THR
from Sym(t0), VALID; the outputs are 0 and ZONE is asked about t0 alone (R247, R36). t0 and s0 are what the ports load_t, of
TW bits, and load_sis, of the width of SIS, carry (R34, R22; log entry 16); that width holds every number up to FS. -/
def Obligations.LoadInitialises : Prop :=
  ∀ s : State,
    let t0 := s.pins.loadT % 2 ^ s.cfg.tw
    let s0 := s.pins.loadSis % 2 ^ widthOf s.cfg.fs
    (s.pins.loadSis ≤ s.cfg.fs → s0 = s.pins.loadSis) ∧
    (s.cfgErr = false → configError s.cfg = none → s0 < s.cfg.fs → ZoneFits s.cfg t0 →
      ∃ y, symbolAt s.cfg t0 = some y ∧
        exec .load s = .next { s with
          t := t0, sis := s0, wti := 0, poff := 0, thr := readThreshold s.cfg y, valid := true
          sampleO := 0, ampO := false, zq := [t0] })

/-- A LOAD takes CfgError when a check fails, or else when the value on port load_sis is FS or more (R34; log entry 16): CFG_ERR is 1, VALID 0, T, SIS, WTI, THR
and POFF keep their values and no sample is emitted (R247, R271, R278). The recorded reason is the model's (R273; log
entry 15), and so is the choice of R271 over U3 for the registers (log entry 17). -/
def Obligations.LoadTakesCfgError : Prop :=
  ∀ s : State, s.cfgErr = false →
    (∀ r, configError s.cfg = some r →
      exec .load s = .next { s with cfgErr := true, valid := false, reason := some r, sampleO := 0, ampO := false, zq := [] }) ∧
    (configError s.cfg = none → s.cfg.fs ≤ s.pins.loadSis % 2 ^ widthOf s.cfg.fs →
      exec .load s = .next { s with
        cfgErr := true, valid := false, reason := some .loadSisRange, sampleO := 0, ampO := false, zq := [] })

/-- A configuration is well formed exactly when the constraints of R9, R231, R96, R236 and R251 hold, those of R236, R251
and PH_ROM in protocol B only (R10, R272; the half of TLEN exact, log entry 14). -/
def Obligations.WellFormedConfiguration : Prop :=
  ∀ c : Config,
    let h := thresholds c
    configError c = none ↔
      (1 ≤ c.fs ∧ 1 ≤ c.tlen ∧ 1 ≤ c.carrierNum ∧ 1 ≤ c.carrierDen ∧ 2 ≤ c.sw ∧ 1 ≤ c.amp ∧ c.amp ≤ 2 ^ (c.sw - 1) - 1 ∧
        1 ≤ c.lowRatioNum ∧ c.lowRatioNum < c.lowRatioDen ∧ 1 ≤ c.tw) ∧
      (∃ n, 1 ≤ n ∧ c.tlen * c.carrierNum = n * (c.carrierDen * c.fs) ∧
        (c.proto = .B → 2 * (c.rot * n % c.tlen) = c.tlen)) ∧
      (1 ≤ h.mark ∧ h.mark ≤ c.fs ∧ 1 ≤ h.one ∧ h.one ≤ c.fs ∧ 1 ≤ h.zero ∧ h.zero ≤ c.fs) ∧
      (if leadLevel c = .low then h.zero < h.one ∧ h.one < h.mark else h.mark < h.one ∧ h.one < h.zero) ∧
      (∀ w ∈ (ampRom c).toList, ∃ i, decode .ad w = .ok i) ∧
      (ampRom c)[0] = 0x00 ∧ (ampRom c)[1] = 0xC0 ∧ (ampRom c)[60] = 0x00 ∧
      (c.proto = .B →
        c.pmOffset < c.fs ∧ c.rot < c.tlen ∧ c.fs % c.tlen = 0 ∧ c.pmOffset % c.tlen = 0 ∧
        (∀ w ∈ c.phRom.toList, ∃ i, decode .pd w = .ok i) ∧
        (∀ w ∈ [0x60, 0x61, 0x62, 0x63, 0x64, 0x80, 0x81], c.phRom.toList.count w = 1))

/-- The reason reported is that of the first failing check in the order of the codes: it fails, and every check with a
smaller code passes (R272). -/
def Obligations.FirstFailingCheckReported : Prop :=
  ∀ (c : Config) (r : CfgReason), configError c = some r →
    (r, true) ∈ configChecks c ∧ ∀ p ∈ configChecks c, p.1.code < r.code → p.2 = false

/-- Refused commands change no register and emit the sample value 0: a TICK while VALID = 0 (R26, R248), a LOAD while
CFG_ERR = 1 (R247 step 0, R271). -/
def Obligations.RefusedCommandsChangeNothing : Prop :=
  ∀ s : State,
    (s.valid = false → exec .tick s = .next { s with sampleO := 0, ampO := false, zq := [] }) ∧
    (s.cfgErr = true → exec .load s = .next { s with sampleO := 0, ampO := false, zq := [] })

/-- A TICK inside a second without a phase query: one sample read at (WTI + POFF) mod TLEN of the table of the amplitude
state, which is LEAD[PROTO] while SIS < THR and the other one after it; then WTI and SIS advance. Nothing else changes and
ZONE is not asked (R248, R249, R253, R65). The sample is the entry's SW bits, here and in the next two statements (R50, R239;
log entry 13). -/
def Obligations.TickWithinSecond : Prop :=
  ∀ s : State, s.valid = true → Loaded s → TablesSized s.cfg → ¬QueriesPhase s → s.sis + 1 < s.cfg.fs →
    let amp := if s.sis < s.thr then leadLevel s.cfg else otherLevel (leadLevel s.cfg)
    ∃ v, (if amp = .high then s.cfg.highTable else s.cfg.lowTable)[(s.wti + s.poff) % s.cfg.tlen]? = some v ∧
      exec .tick s = .next { s with
        sampleO := signedBits s.cfg.sw v, ampO := decide (amp = .high), zq := []
        wti := (s.wti + 1) % s.cfg.tlen, sis := s.sis + 1 }

/-- The TICK at SIS = PM_OFFSET in protocol B: POFF is ROT or 0 by PH(T), already for the sample this TICK emits; ZONE is
asked about T (R248 steps 1 and 2, R251, R304). -/
def Obligations.TickQueriesPhase : Prop :=
  ∀ s : State, s.valid = true → Loaded s → TablesSized s.cfg → QueriesPhase s → ZoneFits s.cfg s.t →
    let amp := if s.sis < s.thr then leadLevel s.cfg else otherLevel (leadLevel s.cfg)
    ∃ ph v, phaseAt s.cfg s.t = some ph ∧
      (if amp = .high then s.cfg.highTable else s.cfg.lowTable)[(s.wti + if ph then s.cfg.rot else 0) % s.cfg.tlen]? = some v ∧
      exec .tick s = .next { s with
        poff := if ph then s.cfg.rot else 0, sampleO := signedBits s.cfg.sw v, ampO := decide (amp = .high), zq := [s.t]
        wti := (s.wti + 1) % s.cfg.tlen, sis := s.sis + 1 }

/-- The TICK that brings SIS to FS: after its sample T advances by one, SIS is 0, THR is the threshold of the new second's
Symbol, WTI is 0 in protocol B and runs on in protocol A, POFF is kept (R248 step 4, R250). -/
def Obligations.TickCrossesSecond : Prop :=
  ∀ s : State, s.valid = true → Loaded s → TablesSized s.cfg → ¬QueriesPhase s → s.sis + 1 = s.cfg.fs →
    s.t + 1 < 2 ^ s.cfg.tw → ZoneFits s.cfg (s.t + 1) →
    let amp := if s.sis < s.thr then leadLevel s.cfg else otherLevel (leadLevel s.cfg)
    ∃ v y, (if amp = .high then s.cfg.highTable else s.cfg.lowTable)[(s.wti + s.poff) % s.cfg.tlen]? = some v ∧ symbolAt s.cfg (s.t + 1) = some y ∧
      exec .tick s = .next { s with
        sampleO := signedBits s.cfg.sw v, ampO := decide (amp = .high), zq := [s.t + 1]
        t := s.t + 1, sis := 0, thr := readThreshold s.cfg y
        wti := if s.cfg.proto = .B then 0 else (s.wti + 1) % s.cfg.tlen }

/-- T does not wrap: the TICK that would take it to 2^TW is refused by name (R21, U6; the model's choice, log entry 5). -/
def Obligations.TimestampOverflowRefused : Prop :=
  ∀ s : State, s.valid = true → Loaded s → TablesSized s.cfg → ¬QueriesPhase s → s.sis + 1 = s.cfg.fs →
    s.t + 1 = 2 ^ s.cfg.tw → exec .tick s = .refused .timestampOverflow

/-- No TICK fails in a loaded state (R270), whatever it queries, while T + 1 fits its width and ZONE fits at both seconds. -/
def Obligations.TickNeverFails : Prop :=
  ∀ s : State, s.valid = true → Loaded s → TablesSized s.cfg → s.t + 1 < 2 ^ s.cfg.tw →
    ZoneFits s.cfg s.t → ZoneFits s.cfg (s.t + 1) → ∃ u, exec .tick s = .next u ∧ u.valid = true

/-! ### Invariants and whole-machine rules -/

/-- Every step keeps the invariant of R35: VALID = 1 only in a loaded state. -/
def Obligations.StepKeepsInv : Prop := ∀ s u : State, StateInv s → step s = .next u → StateInv u

/-- The reset state meets the invariant, and its T fits TW bits: T = 0 and TW = 64 there are the model's choice (log entries
6 and 2); VALID = 0 is R36. -/
def Obligations.ResetMeetsInv : Prop := StateInv State.reset ∧ State.reset.t < 2 ^ State.reset.cfg.tw

/-- T never leaves its TW bits (R21): the second boundary refuses (log entry 5), LOAD's port has TW bits (log entry 16), and
a reset edge leaves a free value of that width (log entry 7). -/
def Obligations.StepKeepsTimestampWidth : Prop :=
  ∀ s u : State, s.t < 2 ^ s.cfg.tw → step s = .next u → u.t < 2 ^ u.cfg.tw

/-- No operation of the running block writes any table, nor any other field of CFG (R57, R29). -/
def Obligations.StepKeepsConfig : Prop := ∀ s u : State, step s = .next u → u.cfg = s.cfg

/-- CFG_ERR is sticky: without a hardware reset a set flag stays set with its reason, and a clear flag is set only by a LOAD,
which leaves VALID = 0 (R28, R271). That this LOAD keeps T, SIS, WTI, THR and POFF is the model's choice of R271 over the
'any value' of U3 (log entry 17); the recorded reason is the model's too (log entry 15). -/
def Obligations.CfgErrIsSticky : Prop :=
  ∀ s u : State, s.nextEdge.pins.rstN = true → step s = .next u →
    (s.cfgErr = true → u.cfgErr = true ∧ u.reason = s.reason) ∧
    (s.cfgErr = false → u.cfgErr = true → s.nextEdge.fetch = .load ∧ u.valid = false ∧ u.t = s.t ∧ u.sis = s.sis ∧
      u.wti = s.wti ∧ u.thr = s.thr ∧ u.poff = s.poff)

/-- T is written only by LOAD and by the second boundary, which adds exactly one (R21, R250). -/
def Obligations.TimestampStepsByOne : Prop :=
  ∀ s u : State, s.nextEdge.pins.rstN = true → s.nextEdge.fetch ≠ .load → step s = .next u →
    u.t = s.t ∨ (u.t = s.t + 1 ∧ s.nextEdge.fetch = .tick ∧ s.valid = true ∧ s.sis + 1 = s.cfg.fs ∧ u.sis = 0)

/-- In protocol A no operation but LOAD and hardware reset writes POFF, and LOAD writes 0 or nothing (R25). -/
def Obligations.ProtocolAKeepsPhaseOffset : Prop :=
  ∀ s u : State, s.cfg.proto = .A → s.nextEdge.pins.rstN = true → step s = .next u →
    u.poff = s.poff ∨ (s.nextEdge.fetch = .load ∧ u.poff = 0)

/-- In protocol B the carrier stays aligned: once WTI = SIS mod TLEN, every TICK keeps it so; so at the phase query the
sample is read at 0 or ROT exactly (R251). -/
def Obligations.ProtocolBKeepsAlignment : Prop :=
  ∀ s u : State, s.valid = true → Loaded s → s.cfg.proto = .B → s.wti = s.sis % s.cfg.tlen → exec .tick s = .next u →
    u.wti = u.sis % u.cfg.tlen ∧ (QueriesPhase s → s.wti = 0)

/-- A sample is a two's complement integer of SW bits (R239, R34), whatever the tables hold; and where HIGH_TABLE is bounded
by AMP (R232) and LOW_TABLE populated from it (R234), it is the entry itself. -/
def Obligations.SampleFitsWidth : Prop :=
  ∀ s u : State, s.valid = true → Loaded s → exec .tick s = .next u →
    -(2 ^ (s.cfg.sw - 1) : Int) ≤ u.sampleO ∧ u.sampleO < (2 ^ (s.cfg.sw - 1) : Int) ∧
    (TablesPopulated s.cfg →
      (if u.ampO then s.cfg.highTable else s.cfg.lowTable)[(s.wti + u.poff) % s.cfg.tlen]? = some u.sampleO)

/-! ### Batches -/

/-- A batch of n TICKs started at SIS = s crosses exactly (s + n) div FS boundaries and ends loaded, for every n; so FS TICKs
make one second whatever its Symbols are (R254, R255, R256). -/
def Obligations.BatchCrossesBoundaries : Prop :=
  ∀ (n : Nat) (s : State), s.valid = true → Loaded s → TablesSized s.cfg →
    s.t + (s.sis + n) / s.cfg.fs < 2 ^ s.cfg.tw →
    (∀ k, k ≤ (s.sis + n) / s.cfg.fs → ZoneFits s.cfg (s.t + k)) →
    ∃ u, advance n s = .next u ∧ u.valid = true ∧ Loaded u ∧ u.cfg = s.cfg ∧
      u.t = s.t + (s.sis + n) / s.cfg.fs ∧ u.sis = (s.sis + n) % s.cfg.fs

/-- A second is THR samples in the leading amplitude state and then FS - THR in the other: the sample k of a second that
starts at SIS = 0 shows on amp_o exactly that (R253, R255). -/
def Obligations.SecondShape : Prop :=
  ∀ (k : Nat) (s : State), s.valid = true → Loaded s → TablesSized s.cfg → s.sis = 0 → k < s.cfg.fs →
    s.t + 1 < 2 ^ s.cfg.tw → ZoneFits s.cfg s.t → ZoneFits s.cfg (s.t + 1) →
    ∃ u, advance (k + 1) s = .next u ∧
      (u.ampO = true ↔ (if k < s.thr then leadLevel s.cfg else otherLevel (leadLevel s.cfg)) = .high)

/-- In protocol A the carrier runs on across second boundaries: after n TICKs WTI is (WTI + n) mod TLEN (R250, R308). -/
def Obligations.ProtocolACarrierRunsOn : Prop :=
  ∀ (n : Nat) (s u : State), s.valid = true → Loaded s → s.cfg.proto = .A → advance n s = .next u →
    u.wti = (s.wti + n) % s.cfg.tlen
end

