-- ==== Sys2Proof/Laws/CivilTime.lean ====
section
/-! SUPPORT. The small lemmas of 40_civil_time.md: local seconds, year lengths and day counts. -/

namespace Sys2Proof.Machine

/-- Where local time is defined it is T + ZONE.utcoff(T) (R113). -/
theorem localSeconds_eq_some {z : Zone} {t l : Nat} (h : localSeconds z t = some l) : (l : Int) = t + zoneUtcoff z t := by
  simp only [localSeconds] at h
  split at h
  · simp only [Option.some.injEq] at h; omega
  · cases h

@[simp] theorem daysFrom_zero (y : Nat) : daysFrom y 0 = 0 := rfl

theorem daysFrom_succ (y n : Nat) : daysFrom y (n + 1) = daysFrom y n + ylen (y + n) := rfl

@[simp] theorem daysFrom_one (y : Nat) : daysFrom y 1 = ylen y := by rw [daysFrom_succ, daysFrom_zero]; simp

/-- Day counts over consecutive spans of years add up. -/
theorem daysFrom_add (y m n : Nat) : daysFrom y (m + n) = daysFrom y m + daysFrom (y + m) n := by
  induction n with
  | zero => simp
  | succ n ih => rw [← Nat.add_assoc, daysFrom_succ, ih, daysFrom_succ, Nat.add_assoc y m n, Nat.add_assoc]

/-- A year has 365 or 366 days (R116). -/
theorem ylen_bounds (y : Nat) : 365 ≤ ylen y ∧ ylen y ≤ 366 := by
  simp only [ylen]; split <;> omega

/-- The Gregorian rule repeats after 400 years (R115). -/
theorem leap_add_400 (y : Nat) : leap (y + 400) = leap y := by
  have h4 : (y + 400) % 4 = y % 4 := by omega
  have h100 : (y + 400) % 100 = y % 100 := by omega
  have h400 : (y + 400) % 400 = y % 400 := by omega
  simp only [leap, h4, h100, h400]

theorem ylen_add_400 (y : Nat) : ylen (y + 400) = ylen y := by simp only [ylen, leap_add_400]

end Sys2Proof.Machine
end

