-- ==== Sys2Proof/Laws/State.lean ====
section
/-! SUPPORT. One lemma per field per named update of State: what the update leaves in that field. -/

namespace Sys2Proof.Machine

@[simp] theorem quiet_t (s : State) : s.quiet.t = s.t := rfl
@[simp] theorem quiet_sis (s : State) : s.quiet.sis = s.sis := rfl
@[simp] theorem quiet_wti (s : State) : s.quiet.wti = s.wti := rfl
@[simp] theorem quiet_thr (s : State) : s.quiet.thr = s.thr := rfl
@[simp] theorem quiet_poff (s : State) : s.quiet.poff = s.poff := rfl
@[simp] theorem quiet_valid (s : State) : s.quiet.valid = s.valid := rfl
@[simp] theorem quiet_cfgErr (s : State) : s.quiet.cfgErr = s.cfgErr := rfl
@[simp] theorem quiet_reason (s : State) : s.quiet.reason = s.reason := rfl
@[simp] theorem quiet_sampleO (s : State) : s.quiet.sampleO = 0 := rfl
@[simp] theorem quiet_ampO (s : State) : s.quiet.ampO = false := rfl
@[simp] theorem quiet_zq (s : State) : s.quiet.zq = [] := rfl
@[simp] theorem quiet_pins (s : State) : s.quiet.pins = s.pins := rfl
@[simp] theorem quiet_stimulus (s : State) : s.quiet.stimulus = s.stimulus := rfl
@[simp] theorem quiet_cfg (s : State) : s.quiet.cfg = s.cfg := rfl
@[simp] theorem quiet_freeIdx (s : State) : s.quiet.freeIdx = s.freeIdx := rfl

@[simp] theorem askZone_t (s : State) : s.askZone.t = s.t := rfl
@[simp] theorem askZone_sis (s : State) : s.askZone.sis = s.sis := rfl
@[simp] theorem askZone_wti (s : State) : s.askZone.wti = s.wti := rfl
@[simp] theorem askZone_thr (s : State) : s.askZone.thr = s.thr := rfl
@[simp] theorem askZone_poff (s : State) : s.askZone.poff = s.poff := rfl
@[simp] theorem askZone_valid (s : State) : s.askZone.valid = s.valid := rfl
@[simp] theorem askZone_cfgErr (s : State) : s.askZone.cfgErr = s.cfgErr := rfl
@[simp] theorem askZone_reason (s : State) : s.askZone.reason = s.reason := rfl
@[simp] theorem askZone_sampleO (s : State) : s.askZone.sampleO = s.sampleO := rfl
@[simp] theorem askZone_ampO (s : State) : s.askZone.ampO = s.ampO := rfl
@[simp] theorem askZone_zq (s : State) : s.askZone.zq = s.zq ++ [s.t] := rfl
@[simp] theorem askZone_pins (s : State) : s.askZone.pins = s.pins := rfl
@[simp] theorem askZone_stimulus (s : State) : s.askZone.stimulus = s.stimulus := rfl
@[simp] theorem askZone_cfg (s : State) : s.askZone.cfg = s.cfg := rfl
@[simp] theorem askZone_freeIdx (s : State) : s.askZone.freeIdx = s.freeIdx := rfl

@[simp] theorem validate_t (s : State) : s.validate.t = s.t := rfl
@[simp] theorem validate_sis (s : State) : s.validate.sis = s.sis := rfl
@[simp] theorem validate_wti (s : State) : s.validate.wti = s.wti := rfl
@[simp] theorem validate_thr (s : State) : s.validate.thr = s.thr := rfl
@[simp] theorem validate_poff (s : State) : s.validate.poff = s.poff := rfl
@[simp] theorem validate_valid (s : State) : s.validate.valid = true := rfl
@[simp] theorem validate_cfgErr (s : State) : s.validate.cfgErr = s.cfgErr := rfl
@[simp] theorem validate_reason (s : State) : s.validate.reason = s.reason := rfl
@[simp] theorem validate_sampleO (s : State) : s.validate.sampleO = s.sampleO := rfl
@[simp] theorem validate_ampO (s : State) : s.validate.ampO = s.ampO := rfl
@[simp] theorem validate_zq (s : State) : s.validate.zq = s.zq := rfl
@[simp] theorem validate_pins (s : State) : s.validate.pins = s.pins := rfl
@[simp] theorem validate_stimulus (s : State) : s.validate.stimulus = s.stimulus := rfl
@[simp] theorem validate_cfg (s : State) : s.validate.cfg = s.cfg := rfl
@[simp] theorem validate_freeIdx (s : State) : s.validate.freeIdx = s.freeIdx := rfl

@[simp] theorem raiseCfgError_t (r : CfgReason) (s : State) : (raiseCfgError r s).t = s.t := rfl
@[simp] theorem raiseCfgError_sis (r : CfgReason) (s : State) : (raiseCfgError r s).sis = s.sis := rfl
@[simp] theorem raiseCfgError_wti (r : CfgReason) (s : State) : (raiseCfgError r s).wti = s.wti := rfl
@[simp] theorem raiseCfgError_thr (r : CfgReason) (s : State) : (raiseCfgError r s).thr = s.thr := rfl
@[simp] theorem raiseCfgError_poff (r : CfgReason) (s : State) : (raiseCfgError r s).poff = s.poff := rfl
@[simp] theorem raiseCfgError_valid (r : CfgReason) (s : State) : (raiseCfgError r s).valid = false := rfl
@[simp] theorem raiseCfgError_cfgErr (r : CfgReason) (s : State) : (raiseCfgError r s).cfgErr = true := rfl
@[simp] theorem raiseCfgError_reason (r : CfgReason) (s : State) : (raiseCfgError r s).reason = some r := rfl
@[simp] theorem raiseCfgError_sampleO (r : CfgReason) (s : State) : (raiseCfgError r s).sampleO = s.sampleO := rfl
@[simp] theorem raiseCfgError_ampO (r : CfgReason) (s : State) : (raiseCfgError r s).ampO = s.ampO := rfl
@[simp] theorem raiseCfgError_zq (r : CfgReason) (s : State) : (raiseCfgError r s).zq = s.zq := rfl
@[simp] theorem raiseCfgError_pins (r : CfgReason) (s : State) : (raiseCfgError r s).pins = s.pins := rfl
@[simp] theorem raiseCfgError_stimulus (r : CfgReason) (s : State) : (raiseCfgError r s).stimulus = s.stimulus := rfl
@[simp] theorem raiseCfgError_cfg (r : CfgReason) (s : State) : (raiseCfgError r s).cfg = s.cfg := rfl
@[simp] theorem raiseCfgError_freeIdx (r : CfgReason) (s : State) : (raiseCfgError r s).freeIdx = s.freeIdx := rfl

@[simp] theorem advanceIndexes_t (s : State) : (advanceIndexes s).t = s.t := rfl
@[simp] theorem advanceIndexes_sis (s : State) : (advanceIndexes s).sis = s.sis + 1 := rfl
@[simp] theorem advanceIndexes_wti (s : State) : (advanceIndexes s).wti = (s.wti + 1) % s.cfg.tlen := rfl
@[simp] theorem advanceIndexes_thr (s : State) : (advanceIndexes s).thr = s.thr := rfl
@[simp] theorem advanceIndexes_poff (s : State) : (advanceIndexes s).poff = s.poff := rfl
@[simp] theorem advanceIndexes_valid (s : State) : (advanceIndexes s).valid = s.valid := rfl
@[simp] theorem advanceIndexes_cfgErr (s : State) : (advanceIndexes s).cfgErr = s.cfgErr := rfl
@[simp] theorem advanceIndexes_reason (s : State) : (advanceIndexes s).reason = s.reason := rfl
@[simp] theorem advanceIndexes_sampleO (s : State) : (advanceIndexes s).sampleO = s.sampleO := rfl
@[simp] theorem advanceIndexes_ampO (s : State) : (advanceIndexes s).ampO = s.ampO := rfl
@[simp] theorem advanceIndexes_zq (s : State) : (advanceIndexes s).zq = s.zq := rfl
@[simp] theorem advanceIndexes_pins (s : State) : (advanceIndexes s).pins = s.pins := rfl
@[simp] theorem advanceIndexes_stimulus (s : State) : (advanceIndexes s).stimulus = s.stimulus := rfl
@[simp] theorem advanceIndexes_cfg (s : State) : (advanceIndexes s).cfg = s.cfg := rfl
@[simp] theorem advanceIndexes_freeIdx (s : State) : (advanceIndexes s).freeIdx = s.freeIdx := rfl

@[simp] theorem nextSecond_t (s : State) : (nextSecond s).t = s.t + 1 := rfl
@[simp] theorem nextSecond_sis (s : State) : (nextSecond s).sis = 0 := rfl
@[simp] theorem nextSecond_wti (s : State) : (nextSecond s).wti = s.wti := rfl
@[simp] theorem nextSecond_thr (s : State) : (nextSecond s).thr = s.thr := rfl
@[simp] theorem nextSecond_poff (s : State) : (nextSecond s).poff = s.poff := rfl
@[simp] theorem nextSecond_valid (s : State) : (nextSecond s).valid = s.valid := rfl
@[simp] theorem nextSecond_cfgErr (s : State) : (nextSecond s).cfgErr = s.cfgErr := rfl
@[simp] theorem nextSecond_reason (s : State) : (nextSecond s).reason = s.reason := rfl
@[simp] theorem nextSecond_sampleO (s : State) : (nextSecond s).sampleO = s.sampleO := rfl
@[simp] theorem nextSecond_ampO (s : State) : (nextSecond s).ampO = s.ampO := rfl
@[simp] theorem nextSecond_zq (s : State) : (nextSecond s).zq = s.zq := rfl
@[simp] theorem nextSecond_pins (s : State) : (nextSecond s).pins = s.pins := rfl
@[simp] theorem nextSecond_stimulus (s : State) : (nextSecond s).stimulus = s.stimulus := rfl
@[simp] theorem nextSecond_cfg (s : State) : (nextSecond s).cfg = s.cfg := rfl
@[simp] theorem nextSecond_freeIdx (s : State) : (nextSecond s).freeIdx = s.freeIdx := rfl

@[simp] theorem realign_t (s : State) : (realign s).t = s.t := rfl
@[simp] theorem realign_sis (s : State) : (realign s).sis = s.sis := rfl
@[simp] theorem realign_wti (s : State) : (realign s).wti = if s.cfg.proto = .B then 0 else s.wti := rfl
@[simp] theorem realign_thr (s : State) : (realign s).thr = s.thr := rfl
@[simp] theorem realign_poff (s : State) : (realign s).poff = s.poff := rfl
@[simp] theorem realign_valid (s : State) : (realign s).valid = s.valid := rfl
@[simp] theorem realign_cfgErr (s : State) : (realign s).cfgErr = s.cfgErr := rfl
@[simp] theorem realign_reason (s : State) : (realign s).reason = s.reason := rfl
@[simp] theorem realign_sampleO (s : State) : (realign s).sampleO = s.sampleO := rfl
@[simp] theorem realign_ampO (s : State) : (realign s).ampO = s.ampO := rfl
@[simp] theorem realign_zq (s : State) : (realign s).zq = s.zq := rfl
@[simp] theorem realign_pins (s : State) : (realign s).pins = s.pins := rfl
@[simp] theorem realign_stimulus (s : State) : (realign s).stimulus = s.stimulus := rfl
@[simp] theorem realign_cfg (s : State) : (realign s).cfg = s.cfg := rfl
@[simp] theorem realign_freeIdx (s : State) : (realign s).freeIdx = s.freeIdx := rfl

@[simp] theorem quiet_portLoadT (s : State) : s.quiet.portLoadT = s.portLoadT := rfl
@[simp] theorem quiet_portLoadSis (s : State) : s.quiet.portLoadSis = s.portLoadSis := rfl

@[simp] theorem loadRegisters_t (s : State) : (loadRegisters s).t = s.portLoadT := rfl
@[simp] theorem loadRegisters_sis (s : State) : (loadRegisters s).sis = s.portLoadSis := rfl
@[simp] theorem loadRegisters_wti (s : State) : (loadRegisters s).wti = 0 := rfl
@[simp] theorem loadRegisters_thr (s : State) : (loadRegisters s).thr = s.thr := rfl
@[simp] theorem loadRegisters_poff (s : State) : (loadRegisters s).poff = 0 := rfl
@[simp] theorem loadRegisters_valid (s : State) : (loadRegisters s).valid = s.valid := rfl
@[simp] theorem loadRegisters_cfgErr (s : State) : (loadRegisters s).cfgErr = s.cfgErr := rfl
@[simp] theorem loadRegisters_reason (s : State) : (loadRegisters s).reason = s.reason := rfl
@[simp] theorem loadRegisters_sampleO (s : State) : (loadRegisters s).sampleO = s.sampleO := rfl
@[simp] theorem loadRegisters_ampO (s : State) : (loadRegisters s).ampO = s.ampO := rfl
@[simp] theorem loadRegisters_zq (s : State) : (loadRegisters s).zq = s.zq := rfl
@[simp] theorem loadRegisters_pins (s : State) : (loadRegisters s).pins = s.pins := rfl
@[simp] theorem loadRegisters_stimulus (s : State) : (loadRegisters s).stimulus = s.stimulus := rfl
@[simp] theorem loadRegisters_cfg (s : State) : (loadRegisters s).cfg = s.cfg := rfl
@[simp] theorem loadRegisters_freeIdx (s : State) : (loadRegisters s).freeIdx = s.freeIdx := rfl

@[simp] theorem hardwareReset_t (s : State) : (hardwareReset s).t = Config.unspecified s.freeIdx % 2 ^ s.cfg.tw := rfl
@[simp] theorem hardwareReset_sis (s : State) : (hardwareReset s).sis = Config.unspecified (s.freeIdx + 1) % 2 ^ widthOf s.cfg.fs := rfl
@[simp] theorem hardwareReset_wti (s : State) : (hardwareReset s).wti = Config.unspecified (s.freeIdx + 2) % 2 ^ widthOf s.cfg.tlen := rfl
@[simp] theorem hardwareReset_thr (s : State) : (hardwareReset s).thr = Config.unspecified (s.freeIdx + 3) := rfl
@[simp] theorem hardwareReset_poff (s : State) : (hardwareReset s).poff = Config.unspecified (s.freeIdx + 4) := rfl
@[simp] theorem hardwareReset_valid (s : State) : (hardwareReset s).valid = false := rfl
@[simp] theorem hardwareReset_cfgErr (s : State) : (hardwareReset s).cfgErr = false := rfl
@[simp] theorem hardwareReset_reason (s : State) : (hardwareReset s).reason = none := rfl
@[simp] theorem hardwareReset_sampleO (s : State) : (hardwareReset s).sampleO = 0 := rfl
@[simp] theorem hardwareReset_ampO (s : State) : (hardwareReset s).ampO = false := rfl
@[simp] theorem hardwareReset_zq (s : State) : (hardwareReset s).zq = [] := rfl
@[simp] theorem hardwareReset_pins (s : State) : (hardwareReset s).pins = s.pins := rfl
@[simp] theorem hardwareReset_stimulus (s : State) : (hardwareReset s).stimulus = s.stimulus := rfl
@[simp] theorem hardwareReset_cfg (s : State) : (hardwareReset s).cfg = s.cfg := rfl
@[simp] theorem hardwareReset_freeIdx (s : State) : (hardwareReset s).freeIdx = s.freeIdx + 5 := rfl

@[simp] theorem drive_t (s : State) (p : Pins) : (s.drive p).t = s.t := rfl
@[simp] theorem drive_sis (s : State) (p : Pins) : (s.drive p).sis = s.sis := rfl
@[simp] theorem drive_wti (s : State) (p : Pins) : (s.drive p).wti = s.wti := rfl
@[simp] theorem drive_thr (s : State) (p : Pins) : (s.drive p).thr = s.thr := rfl
@[simp] theorem drive_poff (s : State) (p : Pins) : (s.drive p).poff = s.poff := rfl
@[simp] theorem drive_valid (s : State) (p : Pins) : (s.drive p).valid = s.valid := rfl
@[simp] theorem drive_cfgErr (s : State) (p : Pins) : (s.drive p).cfgErr = s.cfgErr := rfl
@[simp] theorem drive_reason (s : State) (p : Pins) : (s.drive p).reason = s.reason := rfl
@[simp] theorem drive_sampleO (s : State) (p : Pins) : (s.drive p).sampleO = s.sampleO := rfl
@[simp] theorem drive_ampO (s : State) (p : Pins) : (s.drive p).ampO = s.ampO := rfl
@[simp] theorem drive_zq (s : State) (p : Pins) : (s.drive p).zq = s.zq := rfl
@[simp] theorem drive_pins (s : State) (p : Pins) : (s.drive p).pins = s.pins := rfl
@[simp] theorem drive_stimulus (s : State) (p : Pins) : (s.drive p).stimulus = p :: s.stimulus := rfl
@[simp] theorem drive_cfg (s : State) (p : Pins) : (s.drive p).cfg = s.cfg := rfl
@[simp] theorem drive_freeIdx (s : State) (p : Pins) : (s.drive p).freeIdx = s.freeIdx := rfl

@[simp] theorem afterSample_t (s : State) (v : Int) : (afterSample s v).t = s.t := rfl
@[simp] theorem afterSample_sis (s : State) (v : Int) : (afterSample s v).sis = s.sis + 1 := rfl
@[simp] theorem afterSample_wti (s : State) (v : Int) : (afterSample s v).wti = (s.wti + 1) % s.cfg.tlen := rfl
@[simp] theorem afterSample_thr (s : State) (v : Int) : (afterSample s v).thr = s.thr := rfl
@[simp] theorem afterSample_poff (s : State) (v : Int) : (afterSample s v).poff = s.poff := rfl
@[simp] theorem afterSample_valid (s : State) (v : Int) : (afterSample s v).valid = s.valid := rfl
@[simp] theorem afterSample_cfgErr (s : State) (v : Int) : (afterSample s v).cfgErr = s.cfgErr := rfl
@[simp] theorem afterSample_reason (s : State) (v : Int) : (afterSample s v).reason = s.reason := rfl
@[simp] theorem afterSample_sampleO (s : State) (v : Int) : (afterSample s v).sampleO = v := rfl
@[simp] theorem afterSample_ampO (s : State) (v : Int) : (afterSample s v).ampO = decide (ampLevel s = .high) := rfl
@[simp] theorem afterSample_zq (s : State) (v : Int) : (afterSample s v).zq = s.zq := rfl
@[simp] theorem afterSample_pins (s : State) (v : Int) : (afterSample s v).pins = s.pins := rfl
@[simp] theorem afterSample_stimulus (s : State) (v : Int) : (afterSample s v).stimulus = s.stimulus := rfl
@[simp] theorem afterSample_cfg (s : State) (v : Int) : (afterSample s v).cfg = s.cfg := rfl
@[simp] theorem afterSample_freeIdx (s : State) (v : Int) : (afterSample s v).freeIdx = s.freeIdx := rfl

@[simp] theorem nextEdge_t (s : State) : s.nextEdge.t = s.t := by unfold State.nextEdge; split <;> rfl
@[simp] theorem nextEdge_sis (s : State) : s.nextEdge.sis = s.sis := by unfold State.nextEdge; split <;> rfl
@[simp] theorem nextEdge_wti (s : State) : s.nextEdge.wti = s.wti := by unfold State.nextEdge; split <;> rfl
@[simp] theorem nextEdge_thr (s : State) : s.nextEdge.thr = s.thr := by unfold State.nextEdge; split <;> rfl
@[simp] theorem nextEdge_poff (s : State) : s.nextEdge.poff = s.poff := by unfold State.nextEdge; split <;> rfl
@[simp] theorem nextEdge_valid (s : State) : s.nextEdge.valid = s.valid := by unfold State.nextEdge; split <;> rfl
@[simp] theorem nextEdge_cfgErr (s : State) : s.nextEdge.cfgErr = s.cfgErr := by unfold State.nextEdge; split <;> rfl
@[simp] theorem nextEdge_reason (s : State) : s.nextEdge.reason = s.reason := by unfold State.nextEdge; split <;> rfl
@[simp] theorem nextEdge_sampleO (s : State) : s.nextEdge.sampleO = s.sampleO := by unfold State.nextEdge; split <;> rfl
@[simp] theorem nextEdge_ampO (s : State) : s.nextEdge.ampO = s.ampO := by unfold State.nextEdge; split <;> rfl
@[simp] theorem nextEdge_zq (s : State) : s.nextEdge.zq = s.zq := by unfold State.nextEdge; split <;> rfl
@[simp] theorem nextEdge_cfg (s : State) : s.nextEdge.cfg = s.cfg := by unfold State.nextEdge; split <;> rfl
@[simp] theorem nextEdge_freeIdx (s : State) : s.nextEdge.freeIdx = s.freeIdx := by unfold State.nextEdge; split <;> rfl

theorem nextEdge_idle (s : State) (h : s.stimulus = []) : s.nextEdge = { s with pins := Pins.idle } := by
  simp [State.nextEdge, h]

theorem nextEdge_driven (s : State) (p : Pins) (rest : List Pins) (h : s.stimulus = p :: rest) :
    s.nextEdge = { s with pins := p, stimulus := rest } := by
  simp [State.nextEdge, h]

end Sys2Proof.Machine
end

