-- ==== Sys2Proof/Laws/Ops.lean ====
section
/-! SUPPORT. What each shared operation can do, said once: when it answers a next state, and which. -/

namespace Sys2Proof.Machine

theorem andThen_eq_next {o : Host.Outcome State Fault Refusal} {f : State → Host.Outcome State Fault Refusal} {u : State} :
    andThen o f = .next u ↔ ∃ s, o = .next s ∧ f s = .next u := by
  cases o <;> simp [andThen]

@[simp] theorem andThen_next (s : State) (f : State → Host.Outcome State Fault Refusal) : andThen (.next s) f = f s := rfl

theorem fieldsAt_isSome_iff (c : Config) (t : Nat) : (fieldsAt c t).isSome = true ↔ ZoneFits c t := by
  simp only [fieldsAt, localSeconds, ZoneFits, Option.isSome_map]
  split <;> simp_all

theorem exists_fieldsAt {c : Config} {t : Nat} (h : ZoneFits c t) : ∃ f, fieldsAt c t = some f :=
  Option.isSome_iff_exists.mp ((fieldsAt_isSome_iff c t).mpr h)

theorem fieldsAt_eq_some {c : Config} {t : Nat} {f : Fields} (h : fieldsAt c t = some f) :
    ∃ l, localSeconds c.zone t = some l ∧ f = fieldsOfLocal c.zone l := by
  simp only [fieldsAt, Option.map_eq_some_iff] at h
  obtain ⟨l, hl, rfl⟩ := h
  exact ⟨l, hl, rfl⟩

theorem setSymbol_eq (y : Symbol) (s : State) : setSymbol y s = .next { s with thr := readThreshold s.cfg y } := rfl

theorem setPhase_eq (b : Bool) (s : State) : setPhase b s = .next { s with poff := if b then s.cfg.rot else 0 } := rfl

theorem runVar_of_fields {s : State} {f : Fields} (g : Fields → Bool) (h : fieldsAt s.cfg s.t = some f) :
    runVar g s = .next { s with thr := readThreshold s.cfg (symbolOfBit (g f)) } := by
  simp [runVar, h, setSymbol]

theorem runPhaseBit_of_fields {s : State} {f : Fields} (g : Config → Fields → Bool) (h : fieldsAt s.cfg s.t = some f) :
    runPhaseBit g s = .next { s with poff := if g s.cfg f then s.cfg.rot else 0 } := by
  simp [runPhaseBit, h, setPhase]

/-- An amplitude entry that answers a next state writes the threshold of its Symbol and nothing else. -/
theorem runAmpEntry_eq_next {i : Instr} {s u : State} {f : Fields} (hf : fieldsAt s.cfg s.t = some f)
    (h : runAmpEntry i s = .next u) :
    ∃ y, symbolOf i f = some y ∧ u = { s with thr := readThreshold s.cfg y } := by
  cases i <;> simp only [runAmpEntry, reduceCtorEq] at h <;> refine ⟨_, rfl, ?_⟩ <;>
    first
      | exact (Host.Outcome.next.inj ((runVar_of_fields _ hf).symm.trans h)).symm
      | exact (Host.Outcome.next.inj h).symm

/-- A phase entry that answers a next state writes the offset of its Phase Symbol and nothing else. -/
theorem runPhaseEntry_eq_next {i : Instr} {s u : State} {f : Fields} (hf : fieldsAt s.cfg s.t = some f)
    (h : runPhaseEntry i s = .next u) :
    ∃ b, phaseOf i s.cfg f = some b ∧ u = { s with poff := if b then s.cfg.rot else 0 } := by
  cases i <;> simp only [runPhaseEntry, reduceCtorEq] at h
  case pfix0 => exact ⟨false, rfl, (Host.Outcome.next.inj h).symm⟩
  case pfix1 => exact ⟨true, rfl, (Host.Outcome.next.inj h).symm⟩
  case ptime n =>
    simp only [execPtime] at h
    split at h
    · exact ⟨_, rfl, (Host.Outcome.next.inj ((runPhaseBit_of_fields _ hf).symm.trans h)).symm⟩
    · cases h
  case pecc k =>
    simp only [execPecc] at h
    split at h
    · exact ⟨_, rfl, (Host.Outcome.next.inj ((runPhaseBit_of_fields _ hf).symm.trans h)).symm⟩
    · cases h
  case pdst j =>
    simp only [execPdst] at h
    split at h
    · exact ⟨_, rfl, (Host.Outcome.next.inj ((runPhaseBit_of_fields _ hf).symm.trans h)).symm⟩
    · cases h

/-- The Second Symbol Table, where it answers: Sym(T) is defined, THR becomes its threshold and T goes out on zq_t. -/
theorem dispatchAmp_eq_next {s u : State} (h : dispatchAmp s = .next u) :
    ∃ y, symbolAt s.cfg s.t = some y ∧ u = { s.askZone with thr := readThreshold s.cfg y } := by
  simp only [dispatchAmp] at h
  split at h
  · cases h
  · rename_i f hf
    split at h
    · rename_i i hi
      obtain ⟨y, hy, hu⟩ := runAmpEntry_eq_next (s := s.askZone) (f := f) hf h
      exact ⟨y, by simp [symbolAt, hf, hi, hy], hu⟩
    · cases h

/-- The Phase-Overlay Encoder, where it answers: PH(T) is defined and POFF becomes its offset. -/
theorem dispatchPhase_eq_next {s u : State} (h : dispatchPhase s = .next u) :
    ∃ b, phaseAt s.cfg s.t = some b ∧ u = { s.askZone with poff := if b then s.cfg.rot else 0 } := by
  simp only [dispatchPhase] at h
  split at h
  · cases h
  · rename_i f hf
    split at h
    · rename_i hw
      exact ⟨windowBit s.cfg f, by simp [phaseAt, hf, hw], (Host.Outcome.next.inj h).symm⟩
    · rename_i hw
      split at h
      · rename_i i hi
        obtain ⟨b, hb, hu⟩ := runPhaseEntry_eq_next (s := s.askZone) (f := f) hf h
        exact ⟨b, by simp only [phaseAt, hf, hi]; simpa [hw] using hb, hu⟩
      · cases h

/-- Where both wavetables have TLEN entries, every index below TLEN has an entry in both. -/
theorem exists_readWavetable {c : Config} (hc : TablesSized c) (amp : Level) {i : Nat} (hi : i < c.tlen) :
    ∃ v, readWavetable c amp i = some v := by
  have hl : i < (wavetable c amp).length := by
    cases amp
    · exact hc.1.symm ▸ hi
    · exact hc.2.symm ▸ hi
  exact ⟨_, by rw [readWavetable, List.getElem?_eq_getElem hl, Option.map_some]⟩

/-- A read of a wavetable, with the table named. -/
theorem readWavetable_eq (c : Config) (amp : Level) (i : Nat) :
    readWavetable c amp i = (if amp = .high then c.highTable else c.lowTable)[i]?.map (signedBits c.sw) := by
  cases amp <;> rfl

/-- `signedBits` answers an integer of that many bits. -/
theorem signedBits_bounds (width : Nat) (v : Int) :
    -(2 ^ (width - 1) : Int) ≤ signedBits width v ∧ signedBits width v < (2 ^ (width - 1) : Int) := by
  have hlo := BitVec.le_toInt (BitVec.ofInt width v)
  have hhi := BitVec.toInt_lt (x := BitVec.ofInt width v)
  exact ⟨hlo, hhi⟩

/-- An integer of that many bits is kept by `signedBits`. -/
theorem signedBits_of_fits {width : Nat} {v : Int} (hlo : -(2 ^ (width - 1) : Int) ≤ v)
    (hhi : v < (2 ^ (width - 1) : Int)) (hw : 0 < width) : signedBits width v = v := by
  obtain ⟨n, rfl⟩ : ∃ n, width = n + 1 := ⟨width - 1, by omega⟩
  rw [signedBits, BitVec.toInt_ofInt]
  exact Int.bmod_eq_of_le (by rw [Nat.add_sub_cancel] at hlo; push_cast; omega)
    (by rw [Nat.add_sub_cancel] at hhi; push_cast; omega)

/-- `widthOf n` bits hold `n`. -/
theorem lt_two_pow_widthOf (n : Nat) : n < 2 ^ widthOf n := Nat.lt_log2_self

/-- A load_sis up to FS stands on its port whole, so the check against FS sees it. -/
theorem portLoadSis_of_le {s : State} (h : s.pins.loadSis ≤ s.cfg.fs) : s.portLoadSis = s.pins.loadSis :=
  Nat.mod_eq_of_lt (Nat.lt_of_le_of_lt h (lt_two_pow_widthOf s.cfg.fs))

/-- What port load_t carries fits TW bits. -/
theorem portLoadT_lt (s : State) : s.portLoadT < 2 ^ s.cfg.tw := Nat.mod_lt _ (Nat.two_pow_pos _)

theorem portLoadT_of_lt {s : State} (h : s.pins.loadT < 2 ^ s.cfg.tw) : s.portLoadT = s.pins.loadT := Nat.mod_eq_of_lt h

/-- The population of LOW_TABLE keeps the number of entries. -/
@[simp] theorem length_populateLow (num den : Nat) (high : List Int) : (populateLow num den high).length = high.length :=
  List.length_map _

theorem emitSample_eq_next {s u : State} (h : emitSample s = .next u) :
    ∃ v, readWavetable s.cfg (ampLevel s) (readIndex s) = some v ∧
      u = { s with sampleO := v, ampO := decide (ampLevel s = .high) } := by
  simp only [emitSample] at h
  split at h
  · rename_i v hv
    exact ⟨v, hv, (Host.Outcome.next.inj h).symm⟩
  · cases h

theorem advanceIndexes_emit (s : State) (v : Int) :
    advanceIndexes { s with sampleO := v, ampO := decide (ampLevel s = .high) } = afterSample s v := rfl

theorem phaseQuery_eq_next {s u : State} (h : phaseQuery s = .next u) :
    (QueriesPhase s ∧ ∃ b, phaseAt s.cfg s.t = some b ∧ u = { s.askZone with poff := if b then s.cfg.rot else 0 }) ∨
    (¬QueriesPhase s ∧ u = s) := by
  simp only [phaseQuery] at h
  split at h
  · rename_i hq; exact .inl ⟨hq, dispatchPhase_eq_next h⟩
  · rename_i hq; exact .inr ⟨hq, (Host.Outcome.next.inj h).symm⟩

theorem secondBoundary_eq_next {s u : State} (h : secondBoundary s = .next u) :
    s.t + 1 < 2 ^ s.cfg.tw ∧ ∃ y, symbolAt s.cfg (s.t + 1) = some y ∧
      u = realign { (nextSecond s).askZone with thr := readThreshold s.cfg y } := by
  simp only [secondBoundary] at h
  split at h
  · rename_i ht
    obtain ⟨s1, h1, h2⟩ := andThen_eq_next.mp h
    obtain ⟨y, hy, rfl⟩ := dispatchAmp_eq_next h1
    exact ⟨ht, y, hy, (Host.Outcome.next.inj h2).symm⟩
  · cases h

theorem boundaryIfDue_eq_next {s u : State} (h : boundaryIfDue s = .next u) :
    (s.sis ≠ s.cfg.fs ∧ u = s) ∨
    (s.sis = s.cfg.fs ∧ s.t + 1 < 2 ^ s.cfg.tw ∧ ∃ y, symbolAt s.cfg (s.t + 1) = some y ∧
      u = realign { (nextSecond s).askZone with thr := readThreshold s.cfg y }) := by
  simp only [boundaryIfDue] at h
  split at h
  · rename_i hd; exact .inr ⟨hd, secondBoundary_eq_next h⟩
  · rename_i hd; exact .inl ⟨hd, (Host.Outcome.next.inj h).symm⟩

/-- Everything a TICK can do when it answers a next state. -/
theorem execTick_eq_next {s u : State} (h : execTick s = .next u) :
    (s.valid = false ∧ u = s.quiet) ∨
    (s.valid = true ∧ ∃ s1 v, phaseQuery s.quiet = .next s1 ∧
      readWavetable s1.cfg (ampLevel s1) (readIndex s1) = some v ∧ boundaryIfDue (afterSample s1 v) = .next u) := by
  simp only [execTick] at h
  split at h
  · rename_i hv
    obtain ⟨s1, h1, h2⟩ := andThen_eq_next.mp h
    obtain ⟨s2, h3, h4⟩ := andThen_eq_next.mp h2
    obtain ⟨v, hv', rfl⟩ := emitSample_eq_next h3
    exact .inr ⟨hv, s1, v, h1, hv', h4⟩
  · rename_i hv
    exact .inl ⟨by simpa using hv, (Host.Outcome.next.inj h).symm⟩

/-- Everything a LOAD can do when it answers a next state. -/
theorem execLoad_eq_next {s u : State} (h : execLoad s = .next u) :
    (s.cfgErr = true ∧ u = s.quiet) ∨
    (s.cfgErr = false ∧ ∃ r, configError s.cfg = some r ∧ u = raiseCfgError r s.quiet) ∨
    (s.cfgErr = false ∧ configError s.cfg = none ∧ s.cfg.fs ≤ s.portLoadSis ∧ u = raiseCfgError .loadSisRange s.quiet) ∨
    (s.cfgErr = false ∧ configError s.cfg = none ∧ s.portLoadSis < s.cfg.fs ∧
      ∃ y, symbolAt s.cfg s.portLoadT = some y ∧
        u = { (loadRegisters s.quiet).askZone with thr := readThreshold s.cfg y, valid := true }) := by
  simp only [execLoad] at h
  split at h
  · rename_i he; exact .inl ⟨he, (Host.Outcome.next.inj h).symm⟩
  · rename_i he
    have he' : s.cfgErr = false := by simpa using he
    split at h
    · rename_i r hr; exact .inr (.inl ⟨he', r, hr, (Host.Outcome.next.inj h).symm⟩)
    · rename_i hc
      split at h
      · rename_i hs; exact .inr (.inr (.inl ⟨he', hc, hs, (Host.Outcome.next.inj h).symm⟩))
      · rename_i hs
        obtain ⟨s1, h1, h2⟩ := andThen_eq_next.mp h
        obtain ⟨y, hy, rfl⟩ := dispatchAmp_eq_next h1
        exact .inr (.inr (.inr ⟨he', hc, Nat.lt_of_not_le hs, y, hy, (Host.Outcome.next.inj h2).symm⟩))

/-- Everything one clock edge can do when it answers a next state. -/
theorem step_eq_next {s u : State} (h : step s = .next u) :
    (s.nextEdge.pins.rstN = true ∧ exec s.nextEdge.fetch s.nextEdge = .next u) ∨
    (s.nextEdge.pins.rstN = false ∧ u = hardwareReset s.nextEdge) := by
  simp only [step] at h
  split at h
  · rename_i hr; exact .inl ⟨hr, h⟩
  · rename_i hr; exact .inr ⟨by simpa using hr, (Host.Outcome.next.inj h).symm⟩

/-- Only commands come from the `cmd` port. -/
theorem fetch_cases (s : State) : s.fetch = .hold ∨ s.fetch = .tick ∨ s.fetch = .load := by
  simp only [State.fetch, decodeCmd]
  split <;> simp

/-- The first failing check is one of the list. -/
theorem firstFailure_mem {l : List (CfgReason × Bool)} {r : CfgReason} (h : firstFailure l = some r) : (r, true) ∈ l := by
  induction l with
  | nil => cases h
  | cons p rest ih =>
    obtain ⟨r', failed⟩ := p
    cases failed with
    | true => simp only [firstFailure, if_true, Option.some.injEq] at h; simp [h]
    | false => exact List.mem_cons_of_mem _ (ih (by simpa [firstFailure] using h))

/-- No check fails where none is reported. -/
theorem firstFailure_eq_none {l : List (CfgReason × Bool)} (h : firstFailure l = none) : ∀ p ∈ l, p.2 = false := by
  induction l with
  | nil => simp
  | cons p rest ih =>
    obtain ⟨r, failed⟩ := p
    cases failed with
    | true => simp [firstFailure] at h
    | false =>
      intro q hq
      rcases List.mem_cons.mp hq with rfl | hq
      · rfl
      · exact ih (by simpa [firstFailure] using h) q hq

end Sys2Proof.Machine
end

