-- ==== Sys2Proof/Laws/PerInstr.lean ====
section
/-! SUPPORT. The family EncodesInWidth: the word of an instruction fits the width its format gives it (30_encoding.md R80),
one lemma per constructor. -/

namespace Sys2Proof.Laws

/-- The width of a word of a format (R80, R95). -/
def formatWidth : Format → Nat
  | .ad => 8
  | .pd => 8
  | .cmd => 2

/-- The word of the instruction fits the width of its format. -/
def EncodesInWidth.Statement (i : Instr) : Prop := (encode i).toNat < 2 ^ formatWidth i.format

theorem EncodesInWidth.mark : EncodesInWidth.Statement .mark := by unfold EncodesInWidth.Statement; decide
theorem EncodesInWidth.fzero : EncodesInWidth.Statement .fzero := by unfold EncodesInWidth.Statement; decide
theorem EncodesInWidth.fone : EncodesInWidth.Statement .fone := by unfold EncodesInWidth.Statement; decide
theorem EncodesInWidth.min40 : EncodesInWidth.Statement .min40 := by unfold EncodesInWidth.Statement; decide
theorem EncodesInWidth.min20 : EncodesInWidth.Statement .min20 := by unfold EncodesInWidth.Statement; decide
theorem EncodesInWidth.min10 : EncodesInWidth.Statement .min10 := by unfold EncodesInWidth.Statement; decide
theorem EncodesInWidth.min8 : EncodesInWidth.Statement .min8 := by unfold EncodesInWidth.Statement; decide
theorem EncodesInWidth.min4 : EncodesInWidth.Statement .min4 := by unfold EncodesInWidth.Statement; decide
theorem EncodesInWidth.min2 : EncodesInWidth.Statement .min2 := by unfold EncodesInWidth.Statement; decide
theorem EncodesInWidth.min1 : EncodesInWidth.Statement .min1 := by unfold EncodesInWidth.Statement; decide
theorem EncodesInWidth.hr20 : EncodesInWidth.Statement .hr20 := by unfold EncodesInWidth.Statement; decide
theorem EncodesInWidth.hr10 : EncodesInWidth.Statement .hr10 := by unfold EncodesInWidth.Statement; decide
theorem EncodesInWidth.hr8 : EncodesInWidth.Statement .hr8 := by unfold EncodesInWidth.Statement; decide
theorem EncodesInWidth.hr4 : EncodesInWidth.Statement .hr4 := by unfold EncodesInWidth.Statement; decide
theorem EncodesInWidth.hr2 : EncodesInWidth.Statement .hr2 := by unfold EncodesInWidth.Statement; decide
theorem EncodesInWidth.hr1 : EncodesInWidth.Statement .hr1 := by unfold EncodesInWidth.Statement; decide
theorem EncodesInWidth.doy200 : EncodesInWidth.Statement .doy200 := by unfold EncodesInWidth.Statement; decide
theorem EncodesInWidth.doy100 : EncodesInWidth.Statement .doy100 := by unfold EncodesInWidth.Statement; decide
theorem EncodesInWidth.doy80 : EncodesInWidth.Statement .doy80 := by unfold EncodesInWidth.Statement; decide
theorem EncodesInWidth.doy40 : EncodesInWidth.Statement .doy40 := by unfold EncodesInWidth.Statement; decide
theorem EncodesInWidth.doy20 : EncodesInWidth.Statement .doy20 := by unfold EncodesInWidth.Statement; decide
theorem EncodesInWidth.doy10 : EncodesInWidth.Statement .doy10 := by unfold EncodesInWidth.Statement; decide
theorem EncodesInWidth.doy8 : EncodesInWidth.Statement .doy8 := by unfold EncodesInWidth.Statement; decide
theorem EncodesInWidth.doy4 : EncodesInWidth.Statement .doy4 := by unfold EncodesInWidth.Statement; decide
theorem EncodesInWidth.doy2 : EncodesInWidth.Statement .doy2 := by unfold EncodesInWidth.Statement; decide
theorem EncodesInWidth.doy1 : EncodesInWidth.Statement .doy1 := by unfold EncodesInWidth.Statement; decide
theorem EncodesInWidth.yr80 : EncodesInWidth.Statement .yr80 := by unfold EncodesInWidth.Statement; decide
theorem EncodesInWidth.yr40 : EncodesInWidth.Statement .yr40 := by unfold EncodesInWidth.Statement; decide
theorem EncodesInWidth.yr20 : EncodesInWidth.Statement .yr20 := by unfold EncodesInWidth.Statement; decide
theorem EncodesInWidth.yr10 : EncodesInWidth.Statement .yr10 := by unfold EncodesInWidth.Statement; decide
theorem EncodesInWidth.yr8 : EncodesInWidth.Statement .yr8 := by unfold EncodesInWidth.Statement; decide
theorem EncodesInWidth.yr4 : EncodesInWidth.Statement .yr4 := by unfold EncodesInWidth.Statement; decide
theorem EncodesInWidth.yr2 : EncodesInWidth.Statement .yr2 := by unfold EncodesInWidth.Statement; decide
theorem EncodesInWidth.yr1 : EncodesInWidth.Statement .yr1 := by unfold EncodesInWidth.Statement; decide
theorem EncodesInWidth.wd4 : EncodesInWidth.Statement .wd4 := by unfold EncodesInWidth.Statement; decide
theorem EncodesInWidth.wd2 : EncodesInWidth.Statement .wd2 := by unfold EncodesInWidth.Statement; decide
theorem EncodesInWidth.wd1 : EncodesInWidth.Statement .wd1 := by unfold EncodesInWidth.Statement; decide
theorem EncodesInWidth.pa1 : EncodesInWidth.Statement .pa1 := by unfold EncodesInWidth.Statement; decide
theorem EncodesInWidth.pa2 : EncodesInWidth.Statement .pa2 := by unfold EncodesInWidth.Statement; decide
theorem EncodesInWidth.lyi : EncodesInWidth.Statement .lyi := by unfold EncodesInWidth.Statement; decide
theorem EncodesInWidth.dste : EncodesInWidth.Statement .dste := by unfold EncodesInWidth.Statement; decide
theorem EncodesInWidth.dsts : EncodesInWidth.Statement .dsts := by unfold EncodesInWidth.Statement; decide
theorem EncodesInWidth.pfix0 : EncodesInWidth.Statement .pfix0 := by unfold EncodesInWidth.Statement; decide
theorem EncodesInWidth.pfix1 : EncodesInWidth.Statement .pfix1 := by unfold EncodesInWidth.Statement; decide
theorem EncodesInWidth.ptime (n : Nat) : EncodesInWidth.Statement (.ptime n) := (encode (.ptime n)).isLt
theorem EncodesInWidth.pecc (k : Nat) : EncodesInWidth.Statement (.pecc k) := (encode (.pecc k)).isLt
theorem EncodesInWidth.pdst (j : Nat) : EncodesInWidth.Statement (.pdst j) := (encode (.pdst j)).isLt
theorem EncodesInWidth.hold : EncodesInWidth.Statement .hold := by unfold EncodesInWidth.Statement; decide
theorem EncodesInWidth.tick : EncodesInWidth.Statement .tick := by unfold EncodesInWidth.Statement; decide
theorem EncodesInWidth.load : EncodesInWidth.Statement .load := by unfold EncodesInWidth.Statement; decide

end Sys2Proof.Laws
end

