-- ==== Sys2Proof/Machine/Listing.lean ====
section
/-! DEFINITION. The listing notation of 30_encoding.md R97 and R98, as data: what a ROM listing and a command listing stand
for. -/

namespace Sys2Proof.Machine

/-- The expansion of a pseudo-instruction (R98). -/
def expandPseudo : Pseudo → List Instr
  | .p => [.mark]
  | .rsv => [.fzero]
  | .nols => [.fzero]
  | .dut0 => [.fzero]
  | .dutp => [.fone]
  | .sync b => [if b then .pfix1 else .pfix0]
  | .r => [.pfix0]
  | .advance n => List.replicate n .tick

/-- The phase entries whose operand may step with the index of a range (R97). -/
inductive Stepped where
  | ptime
  | pecc
  | pdst
deriving DecidableEq, Repr

/-- One line of a ROM listing (R97). -/
inductive RomLine where
  /-- `index: X`. -/
  | entry (index : Nat) (i : Instr)
  /-- `index: X` with X a pseudo-instruction. -/
  | pseudo (index : Nat) (p : Pseudo)
  /-- `a..b: X`: the same entry at each index. -/
  | fill (a b : Nat) (i : Instr)
  /-- `a..b: X m..n`: the operand steps with the index, from `m` to `n`. -/
  | ramp (a b : Nat) (x : Stepped) (m n : Nat)
deriving DecidableEq, Repr

/-- The stepped entry with its operand. -/
def steppedInstr (x : Stepped) (n : Nat) : Instr :=
  match x with
  | .ptime => .ptime n
  | .pecc => .pecc n
  | .pdst => .pdst n

/-- The entries a line stands for, with their indexes (R97, R98). -/
def expandRomLine : RomLine → List (Nat × Instr)
  | .entry k i => [(k, i)]
  | .pseudo k p => (expandPseudo p).map fun i => (k, i)
  | .fill a b i => (List.range (b + 1 - a)).map fun d => (a + d, i)
  | .ramp a b x m n =>
    (List.range (b + 1 - a)).map fun d => (a + d, steppedInstr x (if n ≤ m then m - d else m + d))

/-- A ROM listing as the words of its entries. -/
def assembleRom (lines : List RomLine) : List (Nat × DispatchWord) :=
  (lines.flatMap expandRomLine).map fun e => (e.1, encode e.2)

/-- One line of a command listing (R97, R98). -/
inductive CmdLine where
  /-- `LOAD t0, s0`. -/
  | load (t0 s0 : Nat)
  /-- `TICK`. -/
  | tick
  /-- `HOLD`. -/
  | hold
  /-- `ADVANCE n`. -/
  | advance (n : Nat)
deriving DecidableEq, Repr

/-- The command code of an instruction of format CMD (R92). -/
def commandOf (i : Instr) : CmdCode := commandBits (encode i)

/-- The edges a line makes the host drive. -/
def expandCmdLine : CmdLine → List Pins
  | .load t0 s0 => [Pins.command (commandOf .load) t0 s0]
  | .tick => [Pins.command (commandOf .tick) 0 0]
  | .hold => [Pins.command (commandOf .hold) 0 0]
  | .advance n => (expandPseudo (.advance n)).map fun i => Pins.command (commandOf i) 0 0

/-- The host drives a command listing, after what it drives already. -/
def State.withListing (s : State) (lines : List CmdLine) : State :=
  { s with stimulus := s.stimulus ++ lines.flatMap expandCmdLine }

end Sys2Proof.Machine
end

