-- ==== Sys2Proof/Tests/Slice0.lean ====
section
/-! SUPPORT. Tests. Expected results come from 30_encoding.md and 95_test_vectors.md, named at each group; the
`test_witness_` theorems show, for each obligation with hypotheses, a state and operands that meet all of them. -/

namespace Sys2Proof.Machine.Tests

open Sys2Proof Sys2Proof.Machine

/-! ### Small states -/

/-- Program P1's configuration (95_test_vectors.md, part 9): protocol A, 10 samples a second. -/
def cfgA : Config :=
  { ({ exampleParams with proto := .A, fs := 10, carrierNum := 5, carrierDen := 2 } : OpenParams).toConfig with
    pmOffset := 0 }

/-- The example configuration with a ZONE that begins DST on 2025-03-09 (day 20156) and ends it on 2025-11-02 (day 20394). -/
def cfgDst : Config :=
  { exampleConfig with
    zone := { Zone.fixed 0 with dstChanges := [(20156, ⟨false, true⟩), (20157, ⟨true, true⟩), (20394, ⟨true, false⟩),
                                               (20395, ⟨false, false⟩)] } }

/-- A ZONE one second behind UTC: local time is negative at T = 0. -/
def cfgBehind : Config := { exampleConfig with zone := Zone.fixed (-1) }

/-- A timestamp of two bits. -/
def cfgNarrow : Config := { cfgA with tw := 2 }

/-- The machine after reset with another configuration. -/
def idle (c : Config) : State := { State.reset with cfg := c }

/-- A valid machine with the given Synthesis State (T, SIS, WTI, THR, POFF). -/
def valid (c : Config) (t sis wti thr poff : Nat) : State :=
  { State.reset with cfg := c, t := t, sis := sis, wti := wti, thr := thr, poff := poff, valid := true }

/-- The Synthesis State of an outcome, with sample_o and amp_o. -/
def seen (o : Host.Outcome State Fault Refusal) : Option ((Nat × Nat × Nat × Nat × Nat) × Int × Bool) :=
  match o with
  | .next s => some ((s.t, s.sis, s.wti, s.thr, s.poff), s.sampleO, s.ampO)
  | .fault _ => none
  | .refused _ => none

/-- THR of an outcome. -/
def thrOf (o : Host.Outcome State Fault Refusal) : Option Nat := (seen o).map fun x => x.1.2.2.2.1

/-- POFF of an outcome. -/
def poffOf (o : Host.Outcome State Fault Refusal) : Option Nat := (seen o).map fun x => x.1.2.2.2.2

/-- VALID, CFG_ERR and the reason of an outcome. -/
def flagsOf (o : Host.Outcome State Fault Refusal) : Option (Bool × Bool × Option CfgReason) :=
  match o with
  | .next s => some (s.valid, s.cfgErr, s.reason)
  | .fault _ => none
  | .refused _ => none

/-- `Loaded`, with the Symbol of T named, as a Bool. -/
def loadedWith (s : State) (y : Symbol) : Bool :=
  decide (configError s.cfg = none) && !s.cfgErr && decide (s.t < 2 ^ s.cfg.tw) && decide (s.sis < s.cfg.fs) &&
  decide (s.wti < s.cfg.tlen) && decide (symbolAt s.cfg s.t = some y) && decide (s.thr = readThreshold s.cfg y) &&
  (decide (s.poff = 0) || decide (s.poff = s.cfg.rot)) && decide (s.cfg.proto = .A → s.poff = 0)

theorem loaded_of_loadedWith {s : State} {y : Symbol} (h : loadedWith s y = true) : Loaded s := by
  simp only [loadedWith, Bool.and_eq_true, Bool.or_eq_true, Bool.not_eq_true', decide_eq_true_eq] at h
  obtain ⟨⟨⟨⟨⟨⟨⟨⟨h1, h2⟩, h3⟩, h4⟩, h5⟩, h6⟩, h7⟩, h8⟩, h9⟩ := h
  exact ⟨h1, h2, h3, h4, h5, ⟨y, h6, h7⟩, h8, h9⟩

theorem tables_cfgA : TablesPopulated cfgA := by
  unfold TablesPopulated TablesSized LowPopulated; decide +kernel

theorem tables_example : TablesPopulated exampleConfig := by
  unfold TablesPopulated TablesSized LowPopulated; decide +kernel

theorem fits_cfgA (t : Nat) : ZoneFits cfgA t := by
  have h : zoneUtcoff cfgA.zone t = 0 := rfl
  simp only [ZoneFits, h]; omega

theorem fits_example (t : Nat) : ZoneFits exampleConfig t := by
  have h : zoneUtcoff exampleConfig.zone t = 0 := rfl
  simp only [ZoneFits, h]; omega

/-! ### Well-formedness (R88, R91) -/

theorem test_illformed_ptime : (Instr.ptime 26).wellFormed = false ∧ (Instr.ptime 25).wellFormed = true := by decide

theorem test_illformed_pecc : (Instr.pecc 5).wellFormed = false ∧ (Instr.pecc 4).wellFormed = true := by decide

theorem test_illformed_pdst : (Instr.pdst 2).wellFormed = false ∧ (Instr.pdst 1).wellFormed = true := by decide

/-! ### Decoding: every constructor, its word written from the fields of 30_encoding.md (R82, R84, R88, R89, R92) -/

theorem test_decode_fixed :
    decode .ad 0b00_000000#8 = .ok .mark ∧ decode .ad 0b01_000000#8 = .ok .fzero ∧
    decode .ad 0b10_000000#8 = .ok .fone := by decide

theorem test_decode_minute :
    decode .ad 0b11_000000#8 = .ok .min40 ∧ decode .ad 0b11_000001#8 = .ok .min20 ∧
    decode .ad 0b11_000010#8 = .ok .min10 ∧ decode .ad 0b11_000011#8 = .ok .min8 ∧
    decode .ad 0b11_000100#8 = .ok .min4 ∧ decode .ad 0b11_000101#8 = .ok .min2 ∧
    decode .ad 0b11_000110#8 = .ok .min1 := by decide

theorem test_decode_hour :
    decode .ad 0b11_001000#8 = .ok .hr20 ∧ decode .ad 0b11_001001#8 = .ok .hr10 ∧
    decode .ad 0b11_001010#8 = .ok .hr8 ∧ decode .ad 0b11_001011#8 = .ok .hr4 ∧
    decode .ad 0b11_001100#8 = .ok .hr2 ∧ decode .ad 0b11_001101#8 = .ok .hr1 := by decide

theorem test_decode_day :
    decode .ad 0b11_010000#8 = .ok .doy200 ∧ decode .ad 0b11_010001#8 = .ok .doy100 ∧
    decode .ad 0b11_010010#8 = .ok .doy80 ∧ decode .ad 0b11_010011#8 = .ok .doy40 ∧
    decode .ad 0b11_010100#8 = .ok .doy20 ∧ decode .ad 0b11_010101#8 = .ok .doy10 ∧
    decode .ad 0b11_010110#8 = .ok .doy8 ∧ decode .ad 0b11_010111#8 = .ok .doy4 ∧
    decode .ad 0b11_011000#8 = .ok .doy2 ∧ decode .ad 0b11_011001#8 = .ok .doy1 := by decide

theorem test_decode_year :
    decode .ad 0b11_100000#8 = .ok .yr80 ∧ decode .ad 0b11_100001#8 = .ok .yr40 ∧
    decode .ad 0b11_100010#8 = .ok .yr20 ∧ decode .ad 0b11_100011#8 = .ok .yr10 ∧
    decode .ad 0b11_100100#8 = .ok .yr8 ∧ decode .ad 0b11_100101#8 = .ok .yr4 ∧
    decode .ad 0b11_100110#8 = .ok .yr2 ∧ decode .ad 0b11_100111#8 = .ok .yr1 := by decide

theorem test_decode_weekday_parity_predicates :
    decode .ad 0b11_101000#8 = .ok .wd4 ∧ decode .ad 0b11_101001#8 = .ok .wd2 ∧
    decode .ad 0b11_101010#8 = .ok .wd1 ∧ decode .ad 0b11_110000#8 = .ok .pa1 ∧
    decode .ad 0b11_110001#8 = .ok .pa2 ∧ decode .ad 0b11_111000#8 = .ok .lyi ∧
    decode .ad 0b11_111001#8 = .ok .dste ∧ decode .ad 0b11_111010#8 = .ok .dsts := by decide

theorem test_decode_phase :
    decode .pd 0b000_00000#8 = .ok .pfix0 ∧ decode .pd 0b001_00000#8 = .ok .pfix1 ∧
    decode .pd 0b010_00000#8 = .ok (.ptime 0) ∧ decode .pd 0b010_11001#8 = .ok (.ptime 25) ∧
    decode .pd 0b011_00011#8 = .ok (.pecc 3) ∧ decode .pd 0b100_00001#8 = .ok (.pdst 1) := by decide

theorem test_decode_command :
    decode .cmd 0b00#8 = .ok .hold ∧ decode .cmd 0b01#8 = .ok .tick ∧ decode .cmd 0b10#8 = .ok .load ∧
    decode .cmd 0b11#8 = .ok .hold := by decide

/-- Reserved words (R86, R91), one per reason. -/
theorem test_decode_reserved :
    decode .ad 0x3F = .error .fixedFuncNotZero ∧ decode .ad 0xC7 = .error .unassignedFunction ∧
    decode .ad 0xFB = .error .unassignedFunction ∧ decode .pd 0xA0 = .error .reservedPhaseKind ∧
    decode .pd 0x01 = .error .fixedArgNotZero ∧ decode .pd 0x5A = .error .timeIndexRange ∧
    decode .pd 0x65 = .error .parityIndexRange ∧ decode .pd 0x82 = .error .compositeIndexRange ∧
    decode .cmd 0x04 = .error .commandWidth := by decide

theorem test_table_words :
    decodeTableWord 8 0xC0 = some .min40 ∧ decodeTableWord 8 0x20 = some .pfix1 ∧ decodeTableWord 2 0 = some .hold ∧
    decodeTableWord 2 2 = some .load ∧ decodeTableWord 8 0x04 = none := by decide

/-! ### Calendar entries: THR in the second Ta or Tb of 95_test_vectors.md 3.2, protocol A thresholds 2, 5, 8 -/

/-- Tb = 2024-12-31 23:59:59, day 366, Tuesday. -/
def atTb : State := valid cfgA 1735689599 0 0 2 0

/-- Ta = 2025-03-09 12:40:00, day 68, Sunday. -/
def atTa : State := valid cfgA 1741524000 0 0 2 0

theorem test_fixed_entries :
    thrOf (exec .mark atTb) = some 2 ∧ thrOf (exec .fzero atTb) = some 8 ∧ thrOf (exec .fone atTb) = some 5 := by
  decide +kernel

theorem test_minute_entries :
    [Instr.min40, .min20, .min10, .min8, .min4, .min2, .min1].map (fun i => thrOf (exec i atTb)) =
      [5, 8, 5, 5, 8, 8, 5].map some := by decide +kernel

theorem test_hour_entries :
    [Instr.hr20, .hr10, .hr8, .hr4, .hr2, .hr1].map (fun i => thrOf (exec i atTb)) =
      [5, 8, 8, 8, 5, 5].map some := by decide +kernel

theorem test_day_entries :
    [Instr.doy200, .doy100, .doy80, .doy40, .doy20, .doy10, .doy8, .doy4, .doy2, .doy1].map
      (fun i => thrOf (exec i atTb)) = [5, 5, 8, 5, 5, 8, 8, 5, 5, 8].map some := by decide +kernel

theorem test_year_entries :
    [Instr.yr80, .yr40, .yr20, .yr10, .yr8, .yr4, .yr2, .yr1].map (fun i => thrOf (exec i atTa)) =
      [8, 8, 5, 8, 8, 5, 8, 5].map some := by decide +kernel

theorem test_weekday_entries :
    [Instr.wd4, .wd2, .wd1].map (fun i => thrOf (exec i atTb)) = [8, 5, 8].map some := by decide +kernel

theorem test_parity_and_leap_entries :
    [Instr.pa1, .pa2, .lyi].map (fun i => thrOf (exec i atTb)) = [5, 8, 5].map some ∧
    [Instr.pa1, .pa2, .lyi].map (fun i => thrOf (exec i atTa)) = [8, 5, 8].map some := by decide +kernel

/-- A day on which DST begins: DSTE = 1, DSTS = 0 (R170, R171), protocol B thresholds ONE 20, ZERO 8. -/
theorem test_dst_entries :
    thrOf (exec .dste (valid cfgDst 1741524000 0 0 32 0)) = some 20 ∧
    thrOf (exec .dsts (valid cfgDst 1741524000 0 0 32 0)) = some 8 := by decide +kernel

/-- Part 2: 4102444740 is 2099-12-31 23:59:00, the largest MOC of a century. -/
theorem test_civil_time :
    (fieldsAt cfgA 4102444740).map (fun f => (f.hour, f.min, f.wd, f.year, f.doy, minuteOfCentury f)) =
      some (23, 59, 4, 2099, 365, 52595999) := by decide +kernel

/-! ### Phase entries in the minute of 95_test_vectors.md 5.2 (ROT = 2) -/

def atMinute38 : State := valid exampleConfig 1741523880 4 0 32 0

theorem test_fixed_phase_entries :
    poffOf (exec .pfix1 atMinute38) = some 2 ∧ poffOf (exec .pfix0 { atMinute38 with poff := 2 }) = some 0 := by
  decide +kernel

theorem test_ptime :
    [25, 24, 23, 8, 0].map (fun n => poffOf (exec (.ptime n) atMinute38)) = [0, 0, 2, 2, 0].map some := by
  decide +kernel

theorem test_pecc :
    [4, 3, 2, 1, 0].map (fun k => poffOf (exec (.pecc k) atMinute38)) = [2, 0, 0, 0, 2].map some := by decide +kernel

/-- DSTLS with only entry [1][1][0] set: PDST 1 gives 1 on a day with DSTE = 1 and DSTS = 0, PDST 0 does not (R209). -/
theorem test_pdst :
    [0, 1].map (fun j => poffOf (exec (.pdst j) (valid { cfgDst with dstls := 0b01000000 } 1741524000 4 0 32 0))) =
      [0, 2].map some := by decide +kernel

/-- Part 5.3, the window that starts at 14:10:00 on 2026-11-10: S56, S57, W0, W105, S57, S56. -/
theorem test_window_indexes :
    [1794319800, 1794319926].map (fun t => (fieldsAt exampleConfig t).map (descendingIndex exampleConfig)) =
      [some 56, some 57] ∧
    [1794319927, 1794320032].map (fun t => (fieldsAt exampleConfig t).map subFrame) = [some 127, some 232] ∧
    [1794320033, 1794320159].map (fun t => (fieldsAt exampleConfig t).map (ascendingIndex exampleConfig)) =
      [some 57, some 56] := by decide +kernel

/-! ### Commands: single steps of part 8 and of programs P1, P2 and P4 -/

theorem test_hold : seen (exec .hold (valid cfgA 1741524000 3 3 2 0)) = some ((1741524000, 3, 3, 2, 0), 0, false) := by
  decide +kernel

theorem test_tick_boundary :
    seen (exec .tick (valid cfgA 1741524000 9 1 2 0)) = some ((1741524001, 0, 2, 5, 0), 3276, false) := by
  decide +kernel

theorem test_tick_phase_query :
    seen (exec .tick (valid exampleConfig 1741523882 4 0 20 0)) = some ((1741523882, 5, 1, 20, 2), 0, false) := by
  decide +kernel

theorem test_load :
    seen (step (State.reset.withListing [.load 1741523881 0])) = some ((1741523881, 0, 0, 8, 0), 0, false) ∧
    flagsOf (step (State.reset.withListing [.load 1741523881 0])) = some (true, false, none) := by decide +kernel

/-- Part 6, TLEN 12 at 10/100. -/
theorem test_populateLow :
    populateLow 10 100 [0, 16384, -28377, 32767, -28377, 16384, 0, -16384, 28377, -32767, 28377, -16384] =
      [0, 1638, -2837, 3276, -2837, 1638, 0, -1638, 2837, -3276, 2837, -1638] := by decide

/-- R50, D27: a LOW_TABLE given directly is what a LOW sample is read from (SIS = 2 = THR, index 2). -/
theorem test_low_table_given :
    seen (exec .tick (valid { cfgA with lowTable := [10, 11, 12, 13] } 1741524000 2 2 2 0)) =
      some ((1741524000, 3, 3, 2, 0), 12, false) := by decide +kernel

/-- R34, R50: entries of SW = 16 bits, so 32768 is -32768 and 65537 is 1; load_sis at FS = 10 has four bits, so 19 is 3. -/
theorem test_port_widths :
    signedBits 16 32768 = -32768 ∧ signedBits 16 65537 = 1 ∧ signedBits 16 (-32767) = -32767 ∧
    seen (exec .load { idle cfgA with pins := Pins.command 2 1741524000 19 }) =
      some ((1741524000, 3, 0, 2, 0), 0, false) := by decide +kernel

/-- P4: CYCLES is even. -/
theorem test_load_cfg_error :
    flagsOf (step ((idle { exampleConfig with carrierNum := 20 }).withListing [.load 1741523881 0])) =
      some (false, true, some .rotNotHalfCycle) := by decide +kernel

/-- Words placed by withFetchWord run at the next step: 0xC0 at a LOAD, 0x20 at a phase query. -/
theorem test_withFetchWord :
    thrOf (step (State.reset.withFetchWord 8 0xC0)) = some 20 ∧ poffOf (step (State.reset.withFetchWord 8 0x20)) = some 2 := by
  decide +kernel

/-- The ramp `20..28: PTIME 24..16` of R203 and the pseudo-instruction `29: R` (R97, R98). -/
theorem test_listing :
    assembleRom [.ramp 20 28 .ptime 24 16, .pseudo 29 .r] =
      [(20, 0x58), (21, 0x57), (22, 0x56), (23, 0x55), (24, 0x54), (25, 0x53), (26, 0x52), (27, 0x51), (28, 0x50),
       (29, 0x00)] := by decide

/-! ### Witnesses: hypotheses of the obligations, all met together -/

theorem test_witness_DecodeOfEncode :
    (Instr.ptime 25).wellFormed = true ∧ (Instr.pecc 4).wellFormed = true ∧ (Instr.pdst 1).wellFormed = true ∧
    Instr.wd1.wellFormed = true ∧ Instr.load.wellFormed = true := by decide

theorem test_witness_EncodeOfDecode :
    decode .ad 0xFA = .ok .dsts ∧ decode .pd 0x59 = .ok (.ptime 25) ∧ decode .cmd 3 = .ok .hold := by decide

theorem test_witness_StepRunsTheCommand :
    (State.reset.drive (Pins.command 1 0 0)).nextEdge.pins.rstN = true ∧
    decode .cmd (State.reset.drive (Pins.command 1 0 0)).nextEdge.fetchWord = .ok .tick ∧
    State.reset.nextEdge.pins.rstN = true ∧ decode .cmd State.reset.nextEdge.fetchWord = .ok .hold ∧
    State.reset.stimulus = [] := by decide +kernel

theorem test_witness_LowResetWins : (State.reset.drive ⟨false, 1, 0, 0⟩).nextEdge.pins.rstN = false := by decide +kernel

/-- A second whose fields exist, for every obligation with the hypothesis `fieldsAt … = some f`: LocalTimeFields,
MinuteOfCenturyBound, BcdRoundTrip and the obligations on entries. -/
theorem test_witness_fields :
    fieldsAt atTb.cfg atTb.t = some ⟨59, 59, 23, 2, 2024, 366, false, false⟩ := by decide +kernel

theorem test_witness_FieldRanges_DstEntries : ZoneFits cfgDst 1741524000 := by unfold ZoneFits; decide +kernel

/-- 12:40:00 and 12:40:59, the ends of one local minute. -/
theorem test_witness_FieldsWithinMinute :
    fieldsAt cfgA 1741524000 = some ⟨0, 40, 12, 0, 2025, 68, false, false⟩ ∧
    fieldsAt cfgA 1741524059 = some ⟨59, 40, 12, 0, 2025, 68, false, false⟩ ∧
    (((1741524000 : Nat) : Int) + zoneUtcoff cfgA.zone 1741524000) / 60 =
      (((1741524059 : Nat) : Int) + zoneUtcoff cfgA.zone 1741524059) / 60 := by decide +kernel

theorem test_witness_NegativeLocalTimeRefused :
    ((idle cfgBehind).t : Int) + zoneUtcoff (idle cfgBehind).cfg.zone (idle cfgBehind).t < 0 ∧
    [Instr.min40, .ptime 25, .pecc 4, .pdst 1].all (fun i => i.wellFormed && decide (i.format ≠ .cmd) &&
      decide (i ∉ [Instr.mark, .fzero, .fone, .pfix0, .pfix1])) = true := by decide +kernel

theorem test_witness_AmplitudeDispatchRunsEntry :
    fieldsAt atTb.cfg atTb.t = some ⟨59, 59, 23, 2, 2024, 366, false, false⟩ ∧
    decode .ad (readAmpRom atTb.cfg 59) = .ok .mark := by decide +kernel

/-- The two ends of the operand ranges of TimeBitEntry, ParityOverlayEntry and DstCompositeEntry. -/
theorem test_witness_phase_operands :
    fieldsAt atMinute38.cfg atMinute38.t = some ⟨0, 38, 12, 0, 2025, 68, false, false⟩ ∧
    (0 : Nat) ≤ 25 ∧ (25 : Nat) ≤ 25 ∧ (0 : Nat) ≤ 4 ∧ (4 : Nat) ≤ 4 ∧ (0 : Nat) ≤ 1 ∧ (1 : Nat) ≤ 1 := by decide +kernel

theorem test_witness_ReservedOperandStops : (25 : Nat) < 26 ∧ (4 : Nat) < 5 ∧ (1 : Nat) < 2 := by decide

/-- Inside: 14:10:00 and 14:15:59; outside: 14:09:59 (entry 59) and 14:16:00 (entry 0, PFIX0). -/
theorem test_witness_PhaseDispatchRunsEntry :
    [1794319800, 1794320159].all (fun t => (fieldsAt exampleConfig t).any fun f =>
      decide (10 ≤ f.min % 30 ∧ f.min % 30 ≤ 15)) = true ∧
    [1794319799, 1794320160].all (fun t => (fieldsAt exampleConfig t).any fun f =>
      decide (¬(10 ≤ f.min % 30 ∧ f.min % 30 ≤ 15)) &&
      decide (decode .pd (readPhRom exampleConfig f.sec) = .ok .pfix0)) = true := by decide +kernel

/-- A second of a window, for the two obligations on windows; the sub-frame offsets 0, 126, 127, 232, 233 and 359. -/
def windowSecond (min : Nat) (sec : Fin 60) : Fields := ⟨sec, min, 14, 2, 2026, 314, false, false⟩

theorem test_witness_WindowIndexBounds_WindowSymbol :
    [(windowSecond 10 0, 0), (windowSecond 12 6, 126), (windowSecond 12 7, 127), (windowSecond 13 52, 232),
     (windowSecond 13 53, 233), (windowSecond 45 59, 359)].all (fun p =>
      inWindow p.1 && decide (p.2 = p.1.min % 10 * 60 + p.1.sec.val)) = true := by decide

theorem test_witness_WindowMirror :
    let f := windowSecond 12 6
    let g := windowSecond 13 53
    inWindow f = true ∧ inWindow g = true ∧ f.hour = g.hour ∧ f.min / 30 = g.min / 30 ∧ f.min ≤ 59 ∧ g.min ≤ 59 ∧
    f.dste = g.dste ∧ f.dsts = g.dsts ∧ subFrame f < 127 ∧ subFrame f + subFrame g = 359 := by decide

theorem test_witness_LowTableInverts : LowPopulated exampleConfig ∧ HighTableInverts exampleConfig :=
  ⟨tables_example.2.1, by unfold HighTableInverts; decide +kernel⟩

theorem test_witness_RotationIsHalfCycle :
    configError exampleConfig = none ∧ exampleConfig.proto = .B ∧ exampleConfig.rot = exampleConfig.tlen / 2 := by
  decide +kernel

/-- The state at the LOAD of P2, with LOAD's operands on the ports. -/
def atLoad : State := { State.reset with pins := Pins.command 2 1741523881 39 }

theorem test_witness_LoadInitialises :
    atLoad.pins.loadSis ≤ atLoad.cfg.fs ∧ atLoad.cfgErr = false ∧ configError atLoad.cfg = none ∧
    atLoad.pins.loadSis % 2 ^ widthOf atLoad.cfg.fs < atLoad.cfg.fs ∧
    ZoneFits atLoad.cfg (atLoad.pins.loadT % 2 ^ atLoad.cfg.tw) :=
  ⟨by decide +kernel, rfl, by decide +kernel, by decide +kernel, fits_example _⟩

theorem test_witness_LoadTakesCfgError :
    (idle { exampleConfig with carrierNum := 20 }).cfgErr = false ∧
    configError (idle { exampleConfig with carrierNum := 20 }).cfg = some .rotNotHalfCycle ∧
    ({ atLoad with pins := Pins.command 2 0 40 } : State).cfgErr = false ∧
    configError ({ atLoad with pins := Pins.command 2 0 40 } : State).cfg = none ∧
    ({ atLoad with pins := Pins.command 2 0 40 } : State).cfg.fs ≤
      ({ atLoad with pins := Pins.command 2 0 40 } : State).pins.loadSis %
        2 ^ widthOf ({ atLoad with pins := Pins.command 2 0 40 } : State).cfg.fs := by decide +kernel

/-- 95_test_vectors.md part 8, last row: two checks fail, the earlier one is reported. -/
theorem test_witness_FirstFailingCheckReported :
    configError { cfgA with
      fs := 44100, carrierNum := 20000, carrierDen := 1, tlen := 12, ampRomA := cfgA.ampRomA.set 0 0x40 } =
      some .wavetableCycles := by decide +kernel

theorem test_witness_RefusedCommandsChangeNothing :
    State.reset.valid = false ∧ ({ State.reset with cfgErr := true, reason := some .paramRange } : State).cfgErr = true :=
  ⟨rfl, rfl⟩

/-- Protocol A at SIS = 8, the last sample but one, and protocol B right after its phase query. -/
theorem test_witness_TickWithinSecond :
    (∃ s : State, s = valid cfgA 1741524000 8 0 2 0 ∧ s.valid = true ∧ Loaded s ∧ TablesSized s.cfg ∧
      ¬QueriesPhase s ∧ s.sis + 1 < s.cfg.fs) ∧
    (∃ s : State, s = valid exampleConfig 1741523882 5 1 20 2 ∧ s.valid = true ∧ Loaded s ∧ TablesSized s.cfg ∧
      ¬QueriesPhase s ∧ s.sis + 1 < s.cfg.fs) :=
  ⟨⟨_, rfl, rfl, loaded_of_loadedWith (y := .mark) (by decide +kernel), tables_cfgA.1,
      by unfold QueriesPhase; decide +kernel, by decide +kernel⟩,
    ⟨_, rfl, rfl, loaded_of_loadedWith (y := .one) (by decide +kernel), tables_example.1,
      by unfold QueriesPhase; decide +kernel, by decide +kernel⟩⟩

theorem loaded_query : Loaded (valid exampleConfig 1741523882 4 0 20 0) :=
  loaded_of_loadedWith (y := .one) (by decide +kernel)

theorem test_witness_TickQueriesPhase :
    ∃ s : State, s = valid exampleConfig 1741523882 4 0 20 0 ∧ s.valid = true ∧ Loaded s ∧ TablesSized s.cfg ∧
      QueriesPhase s ∧ ZoneFits s.cfg s.t :=
  ⟨_, rfl, rfl, loaded_query, tables_example.1, by unfold QueriesPhase; decide +kernel, fits_example _⟩

theorem loaded_last : Loaded (valid cfgA 1741524000 9 1 2 0) := loaded_of_loadedWith (y := .mark) (by decide +kernel)

theorem test_witness_TickCrossesSecond :
    ∃ s : State, s = valid cfgA 1741524000 9 1 2 0 ∧ s.valid = true ∧ Loaded s ∧ TablesSized s.cfg ∧
      ¬QueriesPhase s ∧ s.sis + 1 = s.cfg.fs ∧ s.t + 1 < 2 ^ s.cfg.tw ∧ ZoneFits s.cfg (s.t + 1) :=
  ⟨_, rfl, rfl, loaded_last, tables_cfgA.1, by unfold QueriesPhase; decide +kernel, by decide +kernel, by decide +kernel,
    fits_cfgA _⟩

/-- T = 3 is the last value of a two-bit timestamp; its Symbol is MIN10 at minute 0, ZERO. -/
theorem test_witness_TimestampOverflowRefused :
    ∃ s : State, s = valid cfgNarrow 3 9 1 8 0 ∧ s.valid = true ∧ Loaded s ∧ TablesSized s.cfg ∧ ¬QueriesPhase s ∧
      s.sis + 1 = s.cfg.fs ∧ s.t + 1 = 2 ^ s.cfg.tw :=
  ⟨_, rfl, rfl, loaded_of_loadedWith (y := .zero) (by decide +kernel), by unfold TablesSized; decide +kernel,
    by unfold QueriesPhase; decide +kernel, by decide +kernel, by decide +kernel⟩

/-- The hypotheses of TickNeverFails, and of SecondShape with k = 0 and k = 39. -/
theorem test_witness_TickNeverFails_SecondShape :
    ∃ s : State, s = valid exampleConfig 1741523882 0 0 20 0 ∧ s.valid = true ∧ Loaded s ∧ TablesSized s.cfg ∧
      s.sis = 0 ∧ 0 < s.cfg.fs ∧ 39 < s.cfg.fs ∧ s.t + 1 < 2 ^ s.cfg.tw ∧ ZoneFits s.cfg s.t ∧
      ZoneFits s.cfg (s.t + 1) :=
  ⟨_, rfl, rfl, loaded_of_loadedWith (y := .one) (by decide +kernel), tables_example.1, by decide +kernel,
    by decide +kernel, by decide +kernel, by decide +kernel, fits_example _, fits_example _⟩

/-- The next state of an outcome, where there is one. -/
def isNext (o : Host.Outcome State Fault Refusal) : Bool :=
  match o with
  | .next _ => true
  | .fault _ => false
  | .refused _ => false

theorem exists_of_isNext {o : Host.Outcome State Fault Refusal} (h : isNext o = true) : ∃ u, o = .next u := by
  cases o with
  | next u => exact ⟨u, rfl⟩
  | fault r => cases h
  | refused r => cases h

/-- A loaded state whose next edge is a TICK. -/
def atTick : State := (valid cfgA 1741524000 9 1 2 0).drive (Pins.command 1 0 0)

theorem loaded_atTick : Loaded atTick := loaded_of_loadedWith (y := .mark) (by decide +kernel)

/-- StepKeepsInv, StepKeepsTimestampWidth and StepKeepsConfig. -/
theorem test_witness_StepKeeps :
    atTick.valid = true ∧ StateInv atTick ∧ atTick.t < 2 ^ atTick.cfg.tw ∧ ∃ u, step atTick = .next u :=
  ⟨rfl, fun _ => loaded_atTick, by decide +kernel, exists_of_isNext (by decide +kernel)⟩

theorem exists_of_flagsOf {o : Host.Outcome State Fault Refusal} {v e : Bool} {r : Option CfgReason}
    (h : flagsOf o = some (v, e, r)) : ∃ u, o = .next u ∧ u.cfgErr = e := by
  cases o with
  | next u => simp only [flagsOf, Option.some.injEq, Prod.mk.injEq] at h; exact ⟨u, rfl, h.2.1⟩
  | fault _ => cases h
  | refused _ => cases h

/-- CfgErrIsSticky: the set flag, and a clear flag that a LOAD sets. -/
theorem test_witness_CfgErrIsSticky :
    (∃ s : State, s.nextEdge.pins.rstN = true ∧ s.cfgErr = true ∧ ∃ u, step s = .next u) ∧
    (∃ s : State, s.nextEdge.pins.rstN = true ∧ s.cfgErr = false ∧ ∃ u, step s = .next u ∧ u.cfgErr = true) :=
  ⟨⟨{ State.reset with cfgErr := true }, by decide +kernel, rfl, exists_of_isNext (by decide +kernel)⟩,
    ⟨State.reset.drive (Pins.command 2 0 40), by decide +kernel, rfl,
      exists_of_flagsOf (v := false) (r := some .loadSisRange) (by decide +kernel)⟩⟩

theorem test_witness_TimestampStepsByOne :
    atTick.nextEdge.pins.rstN = true ∧ atTick.nextEdge.fetch ≠ .load ∧ ∃ u, step atTick = .next u :=
  ⟨by decide +kernel, by decide +kernel, exists_of_isNext (by decide +kernel)⟩

theorem test_witness_ProtocolAKeepsPhaseOffset :
    atTick.cfg.proto = .A ∧ atTick.nextEdge.pins.rstN = true ∧ ∃ u, step atTick = .next u :=
  ⟨by decide +kernel, by decide +kernel, exists_of_isNext (by decide +kernel)⟩

/-- ProtocolBKeepsAlignment, at the phase query and at the last sample of a second. -/
theorem test_witness_ProtocolBKeepsAlignment :
    (∃ s : State, s = valid exampleConfig 1741523882 4 0 20 0 ∧ s.valid = true ∧ Loaded s ∧ s.cfg.proto = .B ∧
      s.wti = s.sis % s.cfg.tlen ∧ QueriesPhase s ∧ ∃ u, exec .tick s = .next u) ∧
    (∃ s : State, s = valid exampleConfig 1741523882 39 3 20 2 ∧ s.valid = true ∧ Loaded s ∧ s.cfg.proto = .B ∧
      s.wti = s.sis % s.cfg.tlen ∧ ∃ u, exec .tick s = .next u) :=
  ⟨⟨_, rfl, rfl, loaded_query, by decide +kernel, by decide +kernel, by unfold QueriesPhase; decide +kernel,
      exists_of_isNext (by decide +kernel)⟩,
    ⟨_, rfl, rfl, loaded_of_loadedWith (y := .one) (by decide +kernel), by decide +kernel, by decide +kernel,
      exists_of_isNext (by decide +kernel)⟩⟩

theorem test_witness_SampleFitsWidth :
    ∃ s : State, s = valid cfgA 1741524000 9 1 2 0 ∧ s.valid = true ∧ Loaded s ∧ TablesPopulated s.cfg ∧
      ∃ u, exec .tick s = .next u :=
  ⟨_, rfl, rfl, loaded_last, tables_cfgA, exists_of_isNext (by decide +kernel)⟩

/-- Two seconds and one sample: three boundaries are within reach of the batch. -/
theorem test_witness_BatchCrossesBoundaries :
    ∃ s : State, s = valid cfgA 1741524000 9 1 2 0 ∧ s.valid = true ∧ Loaded s ∧ TablesSized s.cfg ∧
      s.t + (s.sis + 21) / s.cfg.fs < 2 ^ s.cfg.tw ∧
      ∀ k, k ≤ (s.sis + 21) / s.cfg.fs → ZoneFits s.cfg (s.t + k) :=
  ⟨_, rfl, rfl, loaded_last, tables_cfgA.1, by decide +kernel, fun _ _ => fits_cfgA _⟩

theorem test_witness_ProtocolACarrierRunsOn :
    ∃ s : State, s = valid cfgA 1741524000 9 1 2 0 ∧ s.valid = true ∧ Loaded s ∧ s.cfg.proto = .A ∧
      ∃ u, advance 1 s = .next u :=
  ⟨_, rfl, rfl, loaded_last, by decide +kernel, exists_of_isNext (by decide +kernel)⟩

end Sys2Proof.Machine.Tests
end

section
/-! O41: what a well-formed configuration is. One lemma says that LOAD's list of checks passes exactly when each check
does; one lemma per check, in the order of R272, says what that check asks; the obligation is assembled from them. -/

namespace Sys2Proof.Machine

/-! ### The list of checks -/

theorem firstFailure_eq_none_iff {l : List (CfgReason × Bool)} : firstFailure l = none ↔ ∀ p ∈ l, p.2 = false := by
  refine ⟨firstFailure_eq_none, fun h => ?_⟩
  induction l with
  | nil => rfl
  | cons p rest ih =>
    obtain ⟨hp, hrest⟩ := List.forall_mem_cons.mp h
    simpa [firstFailure, hp] using ih hrest

theorem configError_eq_none_iff (c : Config) :
    configError c = none ↔
      paramRangeFails c = false ∧ wavetableCyclesFails c = false ∧ rotNotHalfCycleFails c = false ∧
      pmAlignFails c = false ∧ thRangeFails c = false ∧ thOrderFails c = false ∧ adDefinedFails c = false ∧
      adSec0MarkFails c = false ∧ adSec1Min40Fails c = false ∧ adSec60MarkFails c = false ∧
      pdDefinedFails c = false ∧ pdEcc5Fails c = false ∧ pdDst2Fails c = false := by
  simp [configError, firstFailure_eq_none_iff, configChecks]

/-! ### Parameters, carrier and alignment: checks 1 to 4 -/

/-- R9: the range of LOW_RATIO's denominator follows from `LOW_RATIO < 1`, so the check of it asks nothing more. -/
theorem paramRangeFails_eq_false_iff (c : Config) :
    paramRangeFails c = false ↔
      (1 ≤ c.fs ∧ 1 ≤ c.tlen ∧ 1 ≤ c.carrierNum ∧ 1 ≤ c.carrierDen ∧ 2 ≤ c.sw ∧ 1 ≤ c.amp ∧ c.amp ≤ 2 ^ (c.sw - 1) - 1 ∧
        1 ≤ c.lowRatioNum ∧ c.lowRatioNum < c.lowRatioDen ∧ 1 ≤ c.tw) ∧
      (c.proto = .B → c.pmOffset < c.fs ∧ c.rot < c.tlen) := by
  simp only [paramRangeFails, Bool.or_eq_false_iff, Bool.and_eq_false_imp, decide_eq_true_eq, decide_eq_false_iff_not,
    Nat.not_lt, Nat.not_le, and_assoc]
  constructor
  · rintro ⟨hfs, htlen, hnum, hden, hsw, hamp, hmax, hlow, -, hratio, htw, hprotoB⟩
    exact ⟨hfs, htlen, hnum, hden, hsw, hamp, hmax, hlow, hratio, htw, hprotoB⟩
  · rintro ⟨hfs, htlen, hnum, hden, hsw, hamp, hmax, hlow, hratio, htw, hprotoB⟩
    exact ⟨hfs, htlen, hnum, hden, hsw, hamp, hmax, hlow, Nat.one_le_of_lt hratio, hratio, htw, hprotoB⟩

/-- R231: CYCLES is the whole number of carrier cycles a table holds. -/
theorem cycles_eq_of_mul_eq {c : Config} {n : Nat} (hpos : 0 < c.carrierDen * c.fs)
    (h : c.tlen * c.carrierNum = n * (c.carrierDen * c.fs)) : cycles c = n := by
  rw [cycles, h, Nat.mul_div_cancel n hpos]

theorem wavetableCyclesFails_eq_false_iff (c : Config) :
    wavetableCyclesFails c = false ↔ 1 ≤ cycles c ∧ c.tlen * c.carrierNum = cycles c * (c.carrierDen * c.fs) := by
  simp only [wavetableCyclesFails, Bool.or_eq_false_iff, decide_eq_false_iff_not, not_not, Nat.not_lt]
  refine and_comm.trans (and_congr_right fun _ => ⟨fun h => ?_, fun h => ?_⟩)
  · exact (Nat.div_mul_cancel (Nat.dvd_of_mod_eq_zero h)).symm
  · rw [h, Nat.mul_mod_left]

theorem rotNotHalfCycleFails_eq_false_iff (c : Config) :
    rotNotHalfCycleFails c = false ↔ (c.proto = .B → 2 * (c.rot * cycles c % c.tlen) = c.tlen) := by
  simp [rotNotHalfCycleFails]

/-- Checks 2 and 3 speak of one number of cycles (R231, R236); the quotient by which the model finds it is the only one
that meets R231. -/
theorem cycleChecks_pass_iff {c : Config} (hpos : 0 < c.carrierDen * c.fs) :
    (wavetableCyclesFails c = false ∧ rotNotHalfCycleFails c = false) ↔
      ∃ n, 1 ≤ n ∧ c.tlen * c.carrierNum = n * (c.carrierDen * c.fs) ∧
        (c.proto = .B → 2 * (c.rot * n % c.tlen) = c.tlen) := by
  rw [wavetableCyclesFails_eq_false_iff, rotNotHalfCycleFails_eq_false_iff]
  constructor
  · rintro ⟨⟨hone, hwhole⟩, hrot⟩
    exact ⟨cycles c, hone, hwhole, hrot⟩
  · rintro ⟨n, hone, hwhole, hrot⟩
    obtain rfl := cycles_eq_of_mul_eq hpos hwhole
    exact ⟨⟨hone, hwhole⟩, hrot⟩

theorem pmAlignFails_eq_false_iff (c : Config) :
    pmAlignFails c = false ↔ (c.proto = .B → c.fs % c.tlen = 0 ∧ c.pmOffset % c.tlen = 0) := by
  simp [pmAlignFails]

/-! ### Thresholds: checks 5 and 6 -/

theorem thRangeFails_eq_false_iff (c : Config) :
    thRangeFails c = false ↔
      1 ≤ (thresholds c).mark ∧ (thresholds c).mark ≤ c.fs ∧ 1 ≤ (thresholds c).one ∧ (thresholds c).one ≤ c.fs ∧
      1 ≤ (thresholds c).zero ∧ (thresholds c).zero ≤ c.fs := by
  simp only [thRangeFails, Bool.or_eq_false_iff, decide_eq_false_iff_not, Nat.not_lt, and_assoc]

theorem thOrderFails_eq_false_iff (c : Config) :
    thOrderFails c = false ↔
      if leadLevel c = .low then (thresholds c).zero < (thresholds c).one ∧ (thresholds c).one < (thresholds c).mark
      else (thresholds c).mark < (thresholds c).one ∧ (thresholds c).one < (thresholds c).zero := by
  cases hlead : leadLevel c with
  | low => simp [thOrderFails, hlead, and_comm]
  | high => simp [thOrderFails, hlead]

/-! ### The dispatch ROMs: checks 7 to 13 -/

theorem defined_eq_true_iff (f : Format) (w : DispatchWord) : defined f w = true ↔ ∃ i, decode f w = .ok i := by
  cases hdec : decode f w <;> simp [defined, hdec]

theorem adDefinedFails_eq_false_iff (c : Config) :
    adDefinedFails c = false ↔ ∀ w ∈ (ampRom c).toList, ∃ i, decode .ad w = .ok i := by
  simp only [adDefinedFails, Bool.not_eq_false', List.all_eq_true, defined_eq_true_iff]

theorem adSec0MarkFails_eq_false_iff (c : Config) : adSec0MarkFails c = false ↔ (ampRom c)[0] = 0x00 :=
  decide_eq_false_iff_not.trans not_not

theorem adSec1Min40Fails_eq_false_iff (c : Config) : adSec1Min40Fails c = false ↔ (ampRom c)[1] = 0xC0 :=
  decide_eq_false_iff_not.trans not_not

theorem adSec60MarkFails_eq_false_iff (c : Config) : adSec60MarkFails c = false ↔ (ampRom c)[60] = 0x00 :=
  decide_eq_false_iff_not.trans not_not

theorem pdDefinedFails_eq_false_iff (c : Config) :
    pdDefinedFails c = false ↔ (c.proto = .B → ∀ w ∈ c.phRom.toList, ∃ i, decode .pd w = .ok i) := by
  simp only [pdDefinedFails, Bool.and_eq_false_imp, decide_eq_true_eq, Bool.not_eq_false', List.all_eq_true,
    defined_eq_true_iff]

/-- The words of PECC 0 to 4 and of PDST 0 and 1 (R89), the entries R96 wants exactly once. -/
theorem encode_pecc_append_pdst :
    (List.range 5).map (fun k => encode (.pecc k)) ++ (List.range 2).map (fun j => encode (.pdst j)) =
      [0x60, 0x61, 0x62, 0x63, 0x64, 0x80, 0x81] := by decide

theorem onceChecks_pass_iff (c : Config) :
    (pdEcc5Fails c = false ∧ pdDst2Fails c = false) ↔
      (c.proto = .B → ∀ w ∈ [0x60, 0x61, 0x62, 0x63, 0x64, 0x80, 0x81], c.phRom.toList.count w = 1) := by
  rw [← encode_pecc_append_pdst, List.forall_mem_append, List.forall_mem_map, List.forall_mem_map, imp_and]
  simp only [pdEcc5Fails, pdDst2Fails, holdsOnce, Bool.and_eq_false_imp, decide_eq_true_eq, Bool.not_eq_false',
    List.all_eq_true]

/-! ### The obligation -/

/-- Settles O41: each group of checks asks for its rules, and the protocol B rows of all groups are gathered under one
premise. Checks 2 and 3 name CYCLES only where check 1 keeps its divisor above 0. -/
theorem wellFormedConfiguration : Obligations.WellFormedConfiguration := by
  intro c
  rw [configError_eq_none_iff, paramRangeFails_eq_false_iff, pmAlignFails_eq_false_iff, thRangeFails_eq_false_iff,
    thOrderFails_eq_false_iff, adDefinedFails_eq_false_iff, adSec0MarkFails_eq_false_iff, adSec1Min40Fails_eq_false_iff,
    adSec60MarkFails_eq_false_iff, pdDefinedFails_eq_false_iff]
  simp only [imp_and]
  constructor
  · rintro ⟨⟨hparam, hoffset, hrotlt⟩, hwhole, hrot, ⟨hfsmod, hoffsetmod⟩, hrange, horder, had, had0, had1, had60, hpd,
      hecc, hdst⟩
    have hpos : 0 < c.carrierDen * c.fs := by
      obtain ⟨hfs, -, -, hden, -⟩ := hparam
      exact Nat.mul_pos hden hfs
    have hcycles := (cycleChecks_pass_iff hpos).mp ⟨hwhole, hrot⟩
    have honce := (onceChecks_pass_iff c).mp ⟨hecc, hdst⟩
    exact ⟨hparam, hcycles, hrange, horder, had, had0, had1, had60, hoffset, hrotlt, hfsmod, hoffsetmod, hpd, honce⟩
  · rintro ⟨hparam, hcycles, hrange, horder, had, had0, had1, had60, hoffset, hrotlt, hfsmod, hoffsetmod, hpd, honce⟩
    have hpos : 0 < c.carrierDen * c.fs := by
      obtain ⟨hfs, -, -, hden, -⟩ := hparam
      exact Nat.mul_pos hden hfs
    obtain ⟨hwhole, hrot⟩ := (cycleChecks_pass_iff hpos).mpr hcycles
    obtain ⟨hecc, hdst⟩ := (onceChecks_pass_iff c).mpr honce
    exact ⟨⟨hparam, hoffset, hrotlt⟩, hwhole, hrot, ⟨hfsmod, hoffsetmod⟩, hrange, horder, had, had0, had1, had60, hpd,
      hecc, hdst⟩

end Sys2Proof.Machine
end

section
/-! The statements about the machine's registers: what an edge can do to them (one inversion lemma for the step and one
for TICK, beside that of LOAD under Laws), which writes keep a loaded state loaded, and the obligations assembled from
these. -/

namespace Sys2Proof.Machine

/-! ### The three commands -/

theorem exec_hold (s : State) : exec .hold s = .next s.quiet := rfl

theorem exec_tick (s : State) : exec .tick s = execTick s := rfl

theorem exec_load (s : State) : exec .load s = execLoad s := rfl

theorem execTick_of_not_valid {s : State} (h : s.valid = false) : execTick s = .next s.quiet := by
  simp [execTick, h]

theorem execLoad_of_cfgErr {s : State} (h : s.cfgErr = true) : execLoad s = .next s.quiet := by
  simp [execLoad, h]

/-- Everything one edge can do when it answers a next state, by the command it carries (R245, R277). -/
theorem step_cases {s u : State} (h : step s = .next u) :
    (s.nextEdge.pins.rstN = false ∧ u = hardwareReset s.nextEdge) ∨
    (s.nextEdge.fetch = .hold ∧ u = s.nextEdge.quiet) ∨
    (s.nextEdge.fetch = .tick ∧ execTick s.nextEdge = .next u) ∨
    (s.nextEdge.fetch = .load ∧ execLoad s.nextEdge = .next u) := by
  rcases step_eq_next h with ⟨-, hexec⟩ | hreset
  · rcases fetch_cases s.nextEdge with hf | hf | hf <;> rw [hf] at hexec
    · rw [exec_hold] at hexec
      exact .inr (.inl ⟨hf, (Host.Outcome.next.inj hexec).symm⟩)
    · exact .inr (.inr (.inl ⟨hf, hexec⟩))
    · exact .inr (.inr (.inr ⟨hf, hexec⟩))
  · exact .inl hreset

/-- The edges with rst_n high. -/
theorem step_cases_of_rstN {s u : State} (hrst : s.nextEdge.pins.rstN = true) (h : step s = .next u) :
    (s.nextEdge.fetch = .hold ∧ u = s.nextEdge.quiet) ∨
    (s.nextEdge.fetch = .tick ∧ execTick s.nextEdge = .next u) ∨
    (s.nextEdge.fetch = .load ∧ execLoad s.nextEdge = .next u) := by
  rcases step_cases h with ⟨hlow, -⟩ | hcommand
  · rw [hrst] at hlow; cases hlow
  · exact hcommand

/-! ### What a TICK writes -/

/-- The phase query writes POFF and zq_t alone, and POFF only in protocol B (R25, R251). -/
theorem phaseQuery_writes {s u : State} (h : phaseQuery s = .next u) :
    ∃ p z, u = { s with poff := p, zq := z } ∧
      (p = s.poff ∨ (s.cfg.proto = .B ∧ (p = 0 ∨ p = s.cfg.rot))) := by
  rcases phaseQuery_eq_next h with ⟨⟨hproto, -⟩, b, -, rfl⟩ | ⟨-, rfl⟩
  · exact ⟨_, _, rfl, .inr ⟨hproto, by cases b <;> simp⟩⟩
  · exact ⟨_, _, rfl, .inl rfl⟩

/-- What a valid TICK does to the registers: `m` is the state between its sample and the boundary, which is crossed
exactly when SIS has come to FS (R248, R250). -/
theorem execTick_writes {s u : State} (h : execTick s = .next u) :
    (s.valid = false ∧ u = s.quiet) ∨
    (s.valid = true ∧ ∃ p z v m, m = afterSample { s.quiet with poff := p, zq := z } v ∧
      (p = s.poff ∨ (s.cfg.proto = .B ∧ (p = 0 ∨ p = s.cfg.rot))) ∧
      ((s.sis + 1 ≠ s.cfg.fs ∧ u = m) ∨
       (s.sis + 1 = s.cfg.fs ∧ s.t + 1 < 2 ^ s.cfg.tw ∧ ∃ y, symbolAt s.cfg (s.t + 1) = some y ∧
         u = realign { (nextSecond m).askZone with thr := readThreshold s.cfg y }))) := by
  rcases execTick_eq_next h with hrefused | ⟨hvalid, s1, v, hquery, -, hboundary⟩
  · exact .inl hrefused
  · obtain ⟨p, z, rfl, hp⟩ := phaseQuery_writes hquery
    exact .inr ⟨hvalid, p, z, v, _, rfl, hp, boundaryIfDue_eq_next hboundary⟩

/-- No TICK touches CFG or the error flag with its reason (R28, R57). -/
theorem execTick_keeps_cfg_cfgErr {s u : State} (h : execTick s = .next u) :
    u.cfg = s.cfg ∧ u.cfgErr = s.cfgErr ∧ u.reason = s.reason := by
  rcases execTick_writes h with ⟨-, rfl⟩ | ⟨-, p, z, v, m, rfl, -, ⟨-, rfl⟩ | ⟨-, -, y, -, rfl⟩⟩ <;> simp

/-- A TICK keeps T or crosses a second boundary, which adds one where the sum fits (R21, R250). -/
theorem execTick_timestamp {s u : State} (h : execTick s = .next u) :
    u.t = s.t ∨
    (u.t = s.t + 1 ∧ s.t + 1 < 2 ^ s.cfg.tw ∧ s.valid = true ∧ s.sis + 1 = s.cfg.fs ∧ u.sis = 0) := by
  rcases execTick_writes h with ⟨-, rfl⟩ | ⟨hvalid, p, z, v, m, rfl, -, ⟨-, rfl⟩ | ⟨hlast, ht, y, -, rfl⟩⟩
  · exact .inl rfl
  · exact .inl rfl
  · exact .inr ⟨rfl, ht, hvalid, hlast, rfl⟩

/-- In protocol A no TICK writes POFF (R25): only the phase query does, and that is protocol B's. -/
theorem execTick_keeps_poff {s u : State} (hA : s.cfg.proto = .A) (h : execTick s = .next u) : u.poff = s.poff := by
  rcases execTick_writes h with ⟨-, rfl⟩ | ⟨-, p, z, v, m, rfl, hp, hu⟩
  · rfl
  · have hkept : p = s.poff := hp.resolve_right fun ⟨hB, _⟩ => by rw [hA] at hB; cases hB
    rcases hu with ⟨-, rfl⟩ | ⟨-, -, y, -, rfl⟩
    · exact hkept
    · exact hkept

/-! ### Loaded states -/

theorem stateInv_of_not_valid {s : State} (h : s.valid = false) : StateInv s := by
  intro hvalid
  rw [h] at hvalid
  cases hvalid

theorem tlen_pos_of_configError {c : Config} (h : configError c = none) : 0 < c.tlen := by
  obtain ⟨hparam, -⟩ := (configError_eq_none_iff c).mp h
  obtain ⟨⟨-, htlen, -⟩, -⟩ := (paramRangeFails_eq_false_iff c).mp hparam
  exact htlen

/-- Being loaded speaks of CFG, CFG_ERR and the five registers; the ports have no part in it. -/
theorem Loaded.of_registers {s u : State} (h : Loaded s) (hcfg : u.cfg = s.cfg) (herr : u.cfgErr = s.cfgErr)
    (ht : u.t = s.t) (hsis : u.sis = s.sis) (hwti : u.wti = s.wti) (hthr : u.thr = s.thr) (hpoff : u.poff = s.poff) :
    Loaded u := by
  obtain ⟨config, noError, tWidth, sisRange, wtiRange, threshold, phaseOffset, protocolA⟩ := h
  constructor <;> simpa only [hcfg, herr, ht, hsis, hwti, hthr, hpoff]

theorem Loaded.nextEdge {s : State} (h : Loaded s) : Loaded s.nextEdge :=
  h.of_registers (nextEdge_cfg s) (nextEdge_cfgErr s) (nextEdge_t s) (nextEdge_sis s) (nextEdge_wti s) (nextEdge_thr s)
    (nextEdge_poff s)

theorem Loaded.quiet {s : State} (h : Loaded s) : Loaded s.quiet := h.of_registers rfl rfl rfl rfl rfl rfl rfl

/-- What the phase query may leave in POFF is what R35 allows there. -/
theorem Loaded.setPoff {s : State} (h : Loaded s) {p : Nat} (z : List Nat)
    (hp : p = s.poff ∨ (s.cfg.proto = .B ∧ (p = 0 ∨ p = s.cfg.rot))) : Loaded { s with poff := p, zq := z } := by
  rcases hp with rfl | ⟨hB, hp⟩
  · exact h.of_registers rfl rfl rfl rfl rfl rfl rfl
  · exact { h with phaseOffset := hp, protocolA := fun hA => by rw [hA] at hB; cases hB }

/-- Inside a second the indexes advance within their ranges. -/
theorem Loaded.afterSample {s : State} (h : Loaded s) (v : Int) (hlast : s.sis + 1 ≠ s.cfg.fs) :
    Loaded (afterSample s v) :=
  { h with
    sisRange := lt_of_le_of_ne h.sisRange hlast
    wtiRange := Nat.mod_lt _ (Nat.zero_lt_of_lt h.wtiRange) }

/-- The boundary leaves SIS = 0, the new second's threshold and a WTI within range (R250). -/
theorem Loaded.secondBoundary {s : State} (h : Loaded s) (v : Int) {y : Symbol} (ht : s.t + 1 < 2 ^ s.cfg.tw)
    (hy : symbolAt s.cfg (s.t + 1) = some y) :
    Loaded (realign { (nextSecond (Machine.afterSample s v)).askZone with thr := readThreshold s.cfg y }) :=
  { h with
    tWidth := ht
    sisRange := Nat.zero_lt_of_lt h.sisRange
    wtiRange := by
      have hpos : 0 < s.cfg.tlen := Nat.zero_lt_of_lt h.wtiRange
      change (if s.cfg.proto = .B then 0 else (s.wti + 1) % s.cfg.tlen) < s.cfg.tlen
      split
      · exact hpos
      · exact Nat.mod_lt _ hpos
    threshold := ⟨y, hy, rfl⟩ }

theorem Loaded.execTick {s u : State} (h : Loaded s) (htick : execTick s = .next u) : Loaded u := by
  rcases execTick_writes htick with ⟨-, rfl⟩ | ⟨-, p, z, v, m, rfl, hp, ⟨hlast, rfl⟩ | ⟨-, ht, y, hy, rfl⟩⟩
  · exact h.quiet
  · exact (h.quiet.setPoff z hp).afterSample v hlast
  · exact (h.quiet.setPoff z hp).secondBoundary v ht hy

/-- A LOAD that passes its checks makes a loaded state of any state (R247 step 3). -/
theorem loaded_of_load {s : State} {y : Symbol} (herr : s.cfgErr = false) (hconfig : configError s.cfg = none)
    (hsis : s.portLoadSis < s.cfg.fs) (hy : symbolAt s.cfg s.portLoadT = some y) :
    Loaded { (loadRegisters s.quiet).askZone with thr := readThreshold s.cfg y, valid := true } where
  config := hconfig
  noError := herr
  tWidth := portLoadT_lt s
  sisRange := hsis
  wtiRange := tlen_pos_of_configError hconfig
  threshold := ⟨y, hy, rfl⟩
  phaseOffset := .inl rfl
  protocolA _ := rfl

/-! ### The invariant, command by command -/

theorem StateInv.nextEdge {s : State} (h : StateInv s) : StateInv s.nextEdge := by
  intro hvalid
  rw [nextEdge_valid] at hvalid
  exact (h hvalid).nextEdge

theorem StateInv.quiet {s : State} (h : StateInv s) : StateInv s.quiet := fun hvalid => (h hvalid).quiet

theorem StateInv.execTick {s u : State} (h : StateInv s) (htick : execTick s = .next u) : StateInv u := by
  cases hvalid : s.valid with
  | true => exact fun _ => (h hvalid).execTick htick
  | false =>
    obtain rfl := Host.Outcome.next.inj ((execTick_of_not_valid hvalid).symm.trans htick)
    exact h.quiet

theorem StateInv.execLoad {s u : State} (h : StateInv s) (hload : execLoad s = .next u) : StateInv u := by
  rcases execLoad_eq_next hload with ⟨-, rfl⟩ | ⟨-, r, -, rfl⟩ | ⟨-, -, -, rfl⟩ | ⟨herr, hconfig, hsis, y, hy, rfl⟩
  · exact h.quiet
  · exact stateInv_of_not_valid rfl
  · exact stateInv_of_not_valid rfl
  · exact fun _ => loaded_of_load herr hconfig hsis hy

/-- Settles O49: each command keeps the invariant, and a reset edge leaves VALID = 0. -/
theorem stepKeepsInv : Obligations.StepKeepsInv := by
  intro s u hinv hstep
  rcases step_cases hstep with ⟨-, rfl⟩ | ⟨-, rfl⟩ | ⟨-, htick⟩ | ⟨-, hload⟩
  · exact stateInv_of_not_valid rfl
  · exact hinv.nextEdge.quiet
  · exact hinv.nextEdge.execTick htick
  · exact hinv.nextEdge.execLoad hload

/-- Settles O50: VALID = 0 there, and T = 0. -/
theorem resetMeetsInv : Obligations.ResetMeetsInv := ⟨stateInv_of_not_valid rfl, Nat.two_pow_pos _⟩

/-! ### The timestamp -/

/-- Without a query, a valid TICK is its sample and then the boundary, if that is due. -/
theorem execTick_of_not_queriesPhase {s : State} {v : Int} (hvalid : s.valid = true) (hquery : ¬QueriesPhase s)
    (hread : readWavetable s.cfg (ampLevel s) (readIndex s) = some v) :
    execTick s = boundaryIfDue (afterSample s.quiet v) := by
  have hkeep : phaseQuery s.quiet = .next s.quiet := if_neg hquery
  have hemit : emitSample s.quiet = .next { s.quiet with sampleO := v, ampO := decide (ampLevel s.quiet = .high) } := by
    rw [emitSample, show readWavetable s.quiet.cfg (ampLevel s.quiet) (readIndex s.quiet) = some v from hread]
  simp only [execTick, hvalid, if_true, hkeep, andThen_next, hemit, advanceIndexes_emit]

/-- A loaded state with tables of TLEN entries has a sample to emit (R59). -/
theorem Loaded.exists_sample {s : State} (h : Loaded s) (htables : TablesSized s.cfg) :
    ∃ v, readWavetable s.cfg (ampLevel s) (readIndex s) = some v :=
  exists_readWavetable htables (ampLevel s) (Nat.mod_lt _ (Nat.zero_lt_of_lt h.wtiRange))

theorem boundaryIfDue_of_overflow {s : State} (hdue : s.sis = s.cfg.fs) (ht : s.t + 1 = 2 ^ s.cfg.tw) :
    boundaryIfDue s = .refused .timestampOverflow := by
  rw [boundaryIfDue, if_pos hdue, secondBoundary, if_neg ht.not_lt]

/-- Settles O47: the sample is emitted, the boundary is due, and T + 1 does not fit. -/
theorem timestampOverflowRefused : Obligations.TimestampOverflowRefused := by
  intro s hvalid hloaded htables hquery hlast ht
  obtain ⟨v, hread⟩ := hloaded.exists_sample htables
  rw [exec_tick, execTick_of_not_queriesPhase hvalid hquery hread]
  exact boundaryIfDue_of_overflow hlast ht

theorem execLoad_keeps_tWidth {s u : State} (h : s.t < 2 ^ s.cfg.tw) (hload : execLoad s = .next u) :
    u.t < 2 ^ u.cfg.tw := by
  rcases execLoad_eq_next hload with ⟨-, rfl⟩ | ⟨-, r, -, rfl⟩ | ⟨-, -, -, rfl⟩ | ⟨-, -, -, y, -, rfl⟩
  · exact h
  · exact h
  · exact h
  · exact portLoadT_lt s

theorem execTick_keeps_tWidth {s u : State} (h : s.t < 2 ^ s.cfg.tw) (htick : execTick s = .next u) :
    u.t < 2 ^ u.cfg.tw := by
  obtain ⟨hcfg, -⟩ := execTick_keeps_cfg_cfgErr htick
  rw [hcfg]
  rcases execTick_timestamp htick with hkept | ⟨hnext, hfits, -⟩
  · rwa [hkept]
  · rwa [hnext]

/-- Settles O51: the boundary refuses a T + 1 that does not fit, and what LOAD and a reset edge write is cut to TW bits. -/
theorem stepKeepsTimestampWidth : Obligations.StepKeepsTimestampWidth := by
  intro s u ht hstep
  have hedge : s.nextEdge.t < 2 ^ s.nextEdge.cfg.tw := by simpa using ht
  rcases step_cases hstep with ⟨-, rfl⟩ | ⟨-, rfl⟩ | ⟨-, htick⟩ | ⟨-, hload⟩
  · exact Nat.mod_lt _ (Nat.two_pow_pos _)
  · exact hedge
  · exact execTick_keeps_tWidth hedge htick
  · exact execLoad_keeps_tWidth hedge hload

/-- Settles O54: HOLD keeps T, and a TICK moves it only at the boundary. -/
theorem timestampStepsByOne : Obligations.TimestampStepsByOne := by
  intro s u hrst hfetch hstep
  rcases step_cases_of_rstN hrst hstep with ⟨-, rfl⟩ | ⟨hf, htick⟩ | ⟨hf, -⟩
  · exact .inl (nextEdge_t s)
  · rcases execTick_timestamp htick with hkept | ⟨hnext, -, hvalid, hlast, hsis⟩
    · exact .inl (by simpa using hkept)
    · exact .inr ⟨by simpa using hnext, hf, by simpa using hvalid, by simpa using hlast, hsis⟩
  · exact absurd hf hfetch

/-! ### The error flag, the phase offset and the refused commands -/

/-- A LOAD that sets the flag took CfgError, which writes VALID, CFG_ERR and the reason alone (R271). -/
theorem execLoad_raises {s u : State} (hclear : s.cfgErr = false) (hset : u.cfgErr = true)
    (hload : execLoad s = .next u) : ∃ r, u = raiseCfgError r s.quiet := by
  rcases execLoad_eq_next hload with ⟨herr, -⟩ | ⟨-, r, -, rfl⟩ | ⟨-, -, -, rfl⟩ | ⟨-, -, -, y, -, rfl⟩
  · rw [hclear] at herr; cases herr
  · exact ⟨r, rfl⟩
  · exact ⟨_, rfl⟩
  · exact absurd (hset.symm.trans hclear) (by decide)

theorem step_keeps_cfgErr {s u : State} (hrst : s.nextEdge.pins.rstN = true) (herr : s.cfgErr = true)
    (hstep : step s = .next u) : u.cfgErr = true ∧ u.reason = s.reason := by
  rcases step_cases_of_rstN hrst hstep with ⟨-, rfl⟩ | ⟨-, htick⟩ | ⟨-, hload⟩
  · simp [herr]
  · obtain ⟨-, hkeptErr, hkeptReason⟩ := execTick_keeps_cfg_cfgErr htick
    simp [hkeptErr, hkeptReason, herr]
  · have hedge : s.nextEdge.cfgErr = true := by simpa using herr
    obtain rfl := Host.Outcome.next.inj ((execLoad_of_cfgErr hedge).symm.trans hload)
    simp [herr]

theorem step_raises_cfgErr {s u : State} (hrst : s.nextEdge.pins.rstN = true) (hclear : s.cfgErr = false)
    (hset : u.cfgErr = true) (hstep : step s = .next u) :
    s.nextEdge.fetch = .load ∧ ∃ r, u = raiseCfgError r s.nextEdge.quiet := by
  have hedge : s.nextEdge.cfgErr = false := by simpa using hclear
  rcases step_cases_of_rstN hrst hstep with ⟨-, rfl⟩ | ⟨-, htick⟩ | ⟨hf, hload⟩
  · exact absurd (hset.symm.trans hedge) (by decide)
  · obtain ⟨-, hkeptErr, -⟩ := execTick_keeps_cfg_cfgErr htick
    exact absurd (hset.symm.trans (hkeptErr.trans hedge)) (by decide)
  · exact ⟨hf, execLoad_raises hedge hset hload⟩

/-- Settles O53: a set flag turns every LOAD away, and CfgError is raised by a LOAD alone. -/
theorem cfgErrIsSticky : Obligations.CfgErrIsSticky := by
  refine fun s u hrst hstep => ⟨fun herr => step_keeps_cfgErr hrst herr hstep, fun hclear hset => ?_⟩
  obtain ⟨hf, r, rfl⟩ := step_raises_cfgErr hrst hclear hset hstep
  simp [hf]

theorem execLoad_poff {s u : State} (hload : execLoad s = .next u) : u.poff = s.poff ∨ u.poff = 0 := by
  rcases execLoad_eq_next hload with ⟨-, rfl⟩ | ⟨-, r, -, rfl⟩ | ⟨-, -, -, rfl⟩ | ⟨-, -, -, y, -, rfl⟩
  · exact .inl rfl
  · exact .inl rfl
  · exact .inl rfl
  · exact .inr rfl

/-- Settles O55: in protocol A a TICK keeps POFF, and a LOAD keeps it or writes 0. -/
theorem protocolAKeepsPhaseOffset : Obligations.ProtocolAKeepsPhaseOffset := by
  intro s u hA hrst hstep
  rw [← nextEdge_poff s]
  rcases step_cases_of_rstN hrst hstep with ⟨-, rfl⟩ | ⟨-, htick⟩ | ⟨hf, hload⟩
  · exact .inl rfl
  · exact .inl (execTick_keeps_poff (by simpa using hA) htick)
  · exact (execLoad_poff hload).imp_right fun hzero => ⟨hf, hzero⟩

/-- Settles O43: both commands are turned away at their first test and leave the quiet edge. -/
theorem refusedCommandsChangeNothing : Obligations.RefusedCommandsChangeNothing :=
  fun s => ⟨fun hvalid => (exec_tick s).trans (execTick_of_not_valid hvalid),
    fun herr => (exec_load s).trans (execLoad_of_cfgErr herr)⟩

/-- Settles O7: the fields of the reset state, read off. -/
theorem resetValues : Obligations.ResetValues := ⟨rfl, rfl, rfl, rfl, rfl, rfl, rfl⟩

end Sys2Proof.Machine
end

section
/-! The statement about the memory: CFG, with every table in it, is the input of the running block (R57, R29). -/

namespace Sys2Proof.Machine

/-- No way through LOAD writes CFG, the two that raise CFG_ERR included (R57). -/
theorem execLoad_keeps_cfg {s u : State} (hload : execLoad s = .next u) : u.cfg = s.cfg := by
  rcases execLoad_eq_next hload with ⟨-, rfl⟩ | ⟨-, r, -, rfl⟩ | ⟨-, -, -, rfl⟩ | ⟨-, -, -, y, -, rfl⟩ <;> simp

/-- Settles O52: taking the edge keeps CFG, and so does whatever the edge then does: a reset, HOLD, TICK or LOAD. -/
theorem stepKeepsConfig : Obligations.StepKeepsConfig := by
  intro s u hstep
  rw [← nextEdge_cfg s]
  rcases step_cases hstep with ⟨-, rfl⟩ | ⟨-, rfl⟩ | ⟨-, htick⟩ | ⟨-, hload⟩
  · exact hardwareReset_cfg s.nextEdge
  · exact quiet_cfg s.nextEdge
  · obtain ⟨hcfg, -⟩ := execTick_keeps_cfg_cfgErr htick
    exact hcfg
  · exact execLoad_keeps_cfg hload

end Sys2Proof.Machine
end

section
/-! The statements about the encoding (30_encoding.md). The fields of a word are a quotient and a remainder of the word as
a number (R82, R88). One lemma per decoder lists the words it reads and what it reads them as; the round trips and the
reserved words follow from these lists. -/

namespace Sys2Proof

/-! ### The fields of a word -/

theorem toNat_ampKind (w : DispatchWord) : (ampKind w).toNat = w.toNat / 64 := by
  simp only [ampKind, BitVec.extractLsb'_toNat, Nat.shiftRight_eq_div_pow]
  omega

theorem toNat_ampFunc (w : DispatchWord) : (ampFunc w).toNat = w.toNat % 64 := by
  simp [ampFunc, BitVec.extractLsb'_toNat]

theorem ampFunc_eq_zero_iff (w : DispatchWord) : ampFunc w = 0 ↔ w.toNat % 64 = 0 := by
  rw [← BitVec.toNat_inj, toNat_ampFunc]
  rfl

theorem toNat_phaseKind (w : DispatchWord) : (phaseKind w).toNat = w.toNat / 32 := by
  simp only [phaseKind, BitVec.extractLsb'_toNat, Nat.shiftRight_eq_div_pow]
  omega

theorem toNat_phaseArg (w : DispatchWord) : (phaseArg w).toNat = w.toNat % 32 := by
  simp [phaseArg, BitVec.extractLsb'_toNat]

/-- A phase word is its base and its operand (R89), as long as the sum fits a byte. -/
theorem toNat_base_add {base : BitVec 8} {n : Nat} (h : base.toNat + n < 256) :
    (base + BitVec.ofNat 8 n).toNat = base.toNat + n := by
  simp only [BitVec.toNat_add, BitVec.toNat_ofNat]
  omega

theorem wellFormed_ptime_iff (n : Nat) : (Instr.ptime n).wellFormed = true ↔ n ≤ 25 := decide_eq_true_iff

theorem toNat_encode_ptime {n : Nat} (h : n ≤ 25) : (encode (.ptime n)).toNat = 0x40 + n :=
  toNat_base_add (by grind)

theorem wellFormed_pecc_iff (k : Nat) : (Instr.pecc k).wellFormed = true ↔ k ≤ 4 := decide_eq_true_iff

theorem toNat_encode_pecc {k : Nat} (h : k ≤ 4) : (encode (.pecc k)).toNat = 0x60 + k :=
  toNat_base_add (by grind)

theorem wellFormed_pdst_iff (j : Nat) : (Instr.pdst j).wellFormed = true ↔ j ≤ 1 := decide_eq_true_iff

theorem toNat_encode_pdst {j : Nat} (h : j ≤ 1) : (encode (.pdst j)).toNat = 0x80 + j :=
  toNat_base_add (by grind)

/-! ### What the decoders read -/

/-- The table of R84: the AD word of a function is 0xC0 plus its code. -/
theorem encode_of_decodeFunction {code : Nat} {i : Instr} (h : decodeFunction code = some i) :
    i.wellFormed = true ∧ i.format = .ad ∧ (encode i).toNat = 0xC0 + code := by
  unfold decodeFunction at h
  split at h <;> cases h <;> exact ⟨rfl, rfl, rfl⟩

/-- The codes R84 leaves out. -/
theorem decodeFunction_eq_none_iff (code : Nat) :
    decodeFunction code = none ↔
      code = 0x07 ∨ code = 0x0E ∨ code = 0x0F ∨ (0x1A ≤ code ∧ code ≤ 0x1F) ∨ (0x2B ≤ code ∧ code ≤ 0x2F) ∨
      (0x32 ≤ code ∧ code ≤ 0x37) ∨ 0x3B ≤ code := by
  unfold decodeFunction
  split
  case h_40 => simp only [imp_false, true_iff] at *; omega
  all_goals decide

/-- The four kinds of R82: three fixed words, and 0xC0 plus a function code. -/
theorem decodeAmp_eq_ok_iff (w : DispatchWord) (i : Instr) :
    decodeAmp w = .ok i ↔
      (w.toNat = 0x00 ∧ i = .mark) ∨ (w.toNat = 0x40 ∧ i = .fzero) ∨ (w.toNat = 0x80 ∧ i = .fone) ∨
      (0xC0 ≤ w.toNat ∧ decodeFunction (w.toNat - 0xC0) = some i) := by
  have hw := w.isLt
  simp only [decodeAmp, toNat_ampKind, toNat_ampFunc, ampFunc_eq_zero_iff]
  split
  case h_1 | h_2 | h_3 => grind
  case h_4 =>
    have hfunc : w.toNat % 64 = w.toNat - 0xC0 := by grind
    rw [hfunc]
    grind

/-- The five kinds of R88 and R89: two fixed words, and three ranges of words that carry their operand. -/
theorem decodePhase_eq_ok_iff (w : DispatchWord) (i : Instr) :
    decodePhase w = .ok i ↔
      (w.toNat = 0x00 ∧ i = .pfix0) ∨ (w.toNat = 0x20 ∧ i = .pfix1) ∨
      (0x40 ≤ w.toNat ∧ w.toNat ≤ 0x59 ∧ i = .ptime (w.toNat - 0x40)) ∨
      (0x60 ≤ w.toNat ∧ w.toNat ≤ 0x64 ∧ i = .pecc (w.toNat - 0x60)) ∨
      (0x80 ≤ w.toNat ∧ w.toNat ≤ 0x81 ∧ i = .pdst (w.toNat - 0x80)) := by
  have hw := w.isLt
  simp only [decodePhase, toNat_phaseKind, toNat_phaseArg]
  split <;> grind

/-- The four values of the `cmd` port (R92), the reserved one among them (R93). -/
theorem decode_cmd_eq_ok {w : BitVec 8} {i : Instr} (h : decode .cmd w = .ok i) :
    (w = 0#8 ∧ i = .hold) ∨ (w = 1#8 ∧ i = .tick) ∨ (w = 2#8 ∧ i = .load) ∨ (w = 3#8 ∧ i = .hold) := by
  rw [decode] at h
  split at h
  · have hw : w = 0#8 ∨ w = 1#8 ∨ w = 2#8 ∨ w = 3#8 := by bv_omega
    obtain rfl := (Except.ok.inj h).symm
    rcases hw with rfl | rfl | rfl | rfl <;> decide
  · cases h

/-! ### The round trips -/

theorem decode_encode {i : Instr} (h : i.wellFormed = true) : decode i.format (encode i) = .ok i := by
  cases i with
  | ptime n =>
    have hn : n ≤ 25 := (wellFormed_ptime_iff n).mp h
    have hword : (encode (.ptime n)).toNat = 0x40 + n := toNat_encode_ptime hn
    exact (decodePhase_eq_ok_iff _ _).mpr (by grind)
  | pecc k =>
    have hk : k ≤ 4 := (wellFormed_pecc_iff k).mp h
    have hword : (encode (.pecc k)).toNat = 0x60 + k := toNat_encode_pecc hk
    exact (decodePhase_eq_ok_iff _ _).mpr (by grind)
  | pdst j =>
    have hj : j ≤ 1 := (wellFormed_pdst_iff j).mp h
    have hword : (encode (.pdst j)).toNat = 0x80 + j := toNat_encode_pdst hj
    exact (decodePhase_eq_ok_iff _ _).mpr (by grind)
  | _ => rfl

/-- Settles O1: row by row of the opcode table; the three rows with an operand by the ranges of words they have. -/
theorem decodeOfEncode : Obligations.DecodeOfEncode := fun _ => decode_encode

theorem encode_of_decodeAmp {w : DispatchWord} {i : Instr} (h : decodeAmp w = .ok i) :
    i.wellFormed = true ∧ i.format = .ad ∧ encode i = w := by
  rw [← BitVec.toNat_inj]
  rcases (decodeAmp_eq_ok_iff w i).mp h with ⟨hw, rfl⟩ | ⟨hw, rfl⟩ | ⟨hw, rfl⟩ | ⟨hvar, hcode⟩
  · exact ⟨rfl, rfl, hw.symm⟩
  · exact ⟨rfl, rfl, hw.symm⟩
  · exact ⟨rfl, rfl, hw.symm⟩
  · obtain ⟨hwf, hformat, hword⟩ := encode_of_decodeFunction hcode
    exact ⟨hwf, hformat, hword.trans (Nat.add_sub_cancel' hvar)⟩

theorem encode_of_decodePhase {w : DispatchWord} {i : Instr} (h : decodePhase w = .ok i) :
    i.wellFormed = true ∧ i.format = .pd ∧ encode i = w := by
  rw [← BitVec.toNat_inj]
  rcases (decodePhase_eq_ok_iff w i).mp h with
    ⟨hw, rfl⟩ | ⟨hw, rfl⟩ | ⟨hlo, hhi, rfl⟩ | ⟨hlo, hhi, rfl⟩ | ⟨hlo, hhi, rfl⟩
  · exact ⟨rfl, rfl, hw.symm⟩
  · exact ⟨rfl, rfl, hw.symm⟩
  · have hn : w.toNat - 0x40 ≤ 25 := by omega
    exact ⟨(wellFormed_ptime_iff _).mpr hn, rfl, (toNat_encode_ptime hn).trans (Nat.add_sub_cancel' hlo)⟩
  · have hk : w.toNat - 0x60 ≤ 4 := by omega
    exact ⟨(wellFormed_pecc_iff _).mpr hk, rfl, (toNat_encode_pecc hk).trans (Nat.add_sub_cancel' hlo)⟩
  · have hj : w.toNat - 0x80 ≤ 1 := by omega
    exact ⟨(wellFormed_pdst_iff _).mpr hj, rfl, (toNat_encode_pdst hj).trans (Nat.add_sub_cancel' hlo)⟩

/-- Settles O2: format by format; only the command 0b11 is no command's own word. -/
theorem encodeOfDecode : Obligations.EncodeOfDecode := by
  intro f w i h
  cases f with
  | ad =>
    obtain ⟨hwf, hformat, hword⟩ := encode_of_decodeAmp h
    exact ⟨hwf, hformat, .inl hword⟩
  | pd =>
    obtain ⟨hwf, hformat, hword⟩ := encode_of_decodePhase h
    exact ⟨hwf, hformat, .inl hword⟩
  | cmd =>
    rcases decode_cmd_eq_ok h with ⟨rfl, rfl⟩ | ⟨rfl, rfl⟩ | ⟨rfl, rfl⟩ | ⟨rfl, rfl⟩
    · exact ⟨rfl, rfl, .inl rfl⟩
    · exact ⟨rfl, rfl, .inl rfl⟩
    · exact ⟨rfl, rfl, .inl rfl⟩
    · exact ⟨rfl, rfl, .inr ⟨rfl, rfl, rfl⟩⟩

/-! ### The reserved words -/

theorem exists_error_iff {ε α : Type} (r : Except ε α) : (∃ e, r = .error e) ↔ ¬∃ a, r = .ok a := by
  cases r <;> simp

theorem exists_decodeAmp_iff (w : DispatchWord) :
    (∃ i, decodeAmp w = .ok i) ↔
      w.toNat = 0x00 ∨ w.toNat = 0x40 ∨ w.toNat = 0x80 ∨ (0xC0 ≤ w.toNat ∧ ¬decodeFunction (w.toNat - 0xC0) = none) := by
  simp only [decodeAmp_eq_ok_iff, exists_or, exists_and_left, exists_eq, and_true, ← Option.ne_none_iff_exists', ne_eq]

theorem exists_decodePhase_iff (w : DispatchWord) :
    (∃ i, decodePhase w = .ok i) ↔
      w.toNat = 0x00 ∨ w.toNat = 0x20 ∨ (0x40 ≤ w.toNat ∧ w.toNat ≤ 0x59) ∨ (0x60 ≤ w.toNat ∧ w.toNat ≤ 0x64) ∨
      (0x80 ≤ w.toNat ∧ w.toNat ≤ 0x81) := by
  simp only [decodePhase_eq_ok_iff, exists_or, exists_and_left, exists_eq, and_true]

/-- Settles O3: a word is reserved when no list of its decoder holds it. -/
theorem reservedDispatchWords : Obligations.ReservedDispatchWords := by
  intro w
  have hw := w.isLt
  constructor
  · rw [exists_error_iff, decode, exists_decodeAmp_iff, decodeFunction_eq_none_iff]
    omega
  · rw [exists_error_iff, decode, exists_decodePhase_iff]
    omega

/-- Settles O4: each word is the one `encode` gives its instruction. -/
theorem specWordsDecode : Obligations.SpecWordsDecode :=
  ⟨decode_encode (i := .mark) rfl, decode_encode (i := .fzero) rfl, decode_encode (i := .fone) rfl,
    decode_encode (i := .min40) rfl, decode_encode (i := .hr1) rfl, decode_encode (i := .doy200) rfl,
    decode_encode (i := .yr1) rfl, decode_encode (i := .wd2) rfl, decode_encode (i := .pa2) rfl,
    decode_encode (i := .lyi) rfl, decode_encode (i := .dste) rfl, decode_encode (i := .pfix1) rfl,
    decode_encode (i := .ptime 25) rfl, decode_encode (i := .pecc 4) rfl, decode_encode (i := .pdst 1) rfl,
    decode_encode (i := .tick) rfl, decode_encode (i := .load) rfl⟩

end Sys2Proof

namespace Sys2Proof.Machine

/-! ### The phase entries with an operand -/

theorem exec_ptime (n : Nat) (s : State) : exec (.ptime n) s = execPtime n s := rfl

theorem exec_pecc (k : Nat) (s : State) : exec (.pecc k) s = execPecc k s := rfl

theorem exec_pdst (j : Nat) (s : State) : exec (.pdst j) s = execPdst j s := rfl

/-- Settles O31: each of the three entries tests its operand first (R91). -/
theorem reservedOperandStops : Obligations.ReservedOperandStops := by
  refine fun s n => ⟨fun hn => ?_, fun hn => ?_, fun hn => ?_⟩
  · rw [exec_ptime, execPtime, if_neg (Nat.not_le_of_lt hn)]
  · rw [exec_pecc, execPecc, if_neg (Nat.not_le_of_lt hn)]
  · rw [exec_pdst, execPdst, if_neg (Nat.not_le_of_lt hn)]

end Sys2Proof.Machine
end

section
/-! The statements about civil time (40_civil_time.md) and the entries that read it. A closed form of the day count of
whole years gives the length of the 400-year cycle and of a century; one lemma says where the walk over years ends, and the
range of the day of the year and its uniqueness follow from it. -/

namespace Sys2Proof.Machine

/-! ### Day counts -/

theorem leap_eq_decide (y : Nat) : leap y = decide (y % 4 = 0 ∧ (y % 100 ≠ 0 ∨ y % 400 = 0)) := by
  simp [leap, bne, beq_eq_decide]

/-- The leap years below `y` are the multiples of 4, less those of 100, with those of 400 (R115, R116); the count of the
multiples of 100 stands on the left, so that nothing is subtracted. -/
theorem daysFrom_zero_closedForm (y : Nat) :
    daysFrom 0 y + (y + 99) / 100 = 365 * y + (y + 3) / 4 + (y + 399) / 400 := by
  induction y with
  | zero => rfl
  | succ y ih =>
    simp only [daysFrom_succ, Nat.zero_add, ylen, leap_eq_decide, decide_eq_true_eq]
    split <;> omega

theorem daysFrom_cycles (y q : Nat) : daysFrom y (400 * q) = daysIn400Years * q := by
  have hspan := daysFrom_add 0 y (400 * q)
  have hstart := daysFrom_zero_closedForm y
  have hend := daysFrom_zero_closedForm (y + 400 * q)
  rw [Nat.zero_add] at hspan
  rw [daysIn400Years]
  omega

theorem daysFrom_400 (y : Nat) : daysFrom y 400 = daysIn400Years := daysFrom_cycles y 1

theorem daysFrom_century_le (y : Nat) : daysFrom y 100 ≤ 36525 := by
  have hspan := daysFrom_add 0 y 100
  have hstart := daysFrom_zero_closedForm y
  have hend := daysFrom_zero_closedForm (y + 100)
  rw [Nat.zero_add] at hspan
  omega

theorem daysFrom_mono (y : Nat) {m n : Nat} (h : m ≤ n) : daysFrom y m ≤ daysFrom y n := by
  obtain ⟨k, rfl⟩ := Nat.exists_eq_add_of_le h
  exact daysFrom_add y m k ▸ Nat.le_add_right _ _

/-! ### The year and the day within it -/

/-- The day `d`, counted from 1 January of the year `y`, is the day `k`, from 0, of the year `y + n`: R117 with both counts
from 0. -/
def IsDayOfYear (y d n k : Nat) : Prop := k < ylen (y + n) ∧ d = daysFrom y n + k

theorem IsDayOfYear.lt_daysFrom_succ {y d n k : Nat} (h : IsDayOfYear y d n k) : d < daysFrom y (n + 1) := by
  obtain ⟨hk, rfl⟩ := h
  exact Nat.add_lt_add_left hk _

theorem IsDayOfYear.year_le {y d n n' k k' : Nat} (h : IsDayOfYear y d n k) (h' : IsDayOfYear y d n' k') : n ≤ n' := by
  by_contra hlt
  have hyears : daysFrom y (n' + 1) ≤ daysFrom y n := daysFrom_mono y (Nat.lt_of_not_le hlt)
  have hbefore := h'.lt_daysFrom_succ
  obtain ⟨-, hd⟩ := h
  omega

theorem IsDayOfYear.unique {y d n n' k k' : Nat} (h : IsDayOfYear y d n k) (h' : IsDayOfYear y d n' k') :
    n = n' ∧ k = k' := by
  obtain rfl := Nat.le_antisymm (h.year_le h') (h'.year_le h)
  obtain ⟨-, hd⟩ := h
  obtain ⟨-, hd'⟩ := h'
  exact ⟨rfl, Nat.add_left_cancel (hd.symm.trans hd')⟩

/-- A span of whole years may be put before the year a day is counted from. -/
theorem IsDayOfYear.shift {y d n k m : Nat} (h : IsDayOfYear (y + m) d n k) :
    IsDayOfYear y (daysFrom y m + d) (m + n) k := by
  obtain ⟨hk, rfl⟩ := h
  exact ⟨Nat.add_assoc y m n ▸ hk, by rw [daysFrom_add, Nat.add_assoc]⟩

/-- The walk over years ends at the year of the day, where its fuel covers the day. -/
theorem walkYears_isDayOfYear {fuel y d : Nat} (h : d < daysFrom y fuel) :
    ∃ n k, IsDayOfYear y d n k ∧ walkYears fuel y d = (y + n, k) := by
  induction fuel generalizing y d with
  | zero => cases h
  | succ fuel ih =>
    rw [walkYears]
    split
    case isTrue hfirst => exact ⟨0, d, ⟨hfirst, by simp⟩, rfl⟩
    case isFalse hlater =>
      have hle : ylen y ≤ d := Nat.le_of_not_lt hlater
      have hspan : daysFrom y (fuel + 1) = ylen y + daysFrom (y + 1) fuel := by
        rw [Nat.add_comm fuel, daysFrom_add, daysFrom_one]
      obtain ⟨n, k, hday, hwalk⟩ := ih (y := y + 1) (d := d - ylen y) (by omega)
      refine ⟨1 + n, k, ?_, by rw [hwalk, Nat.add_assoc]⟩
      have hshift := hday.shift
      rwa [daysFrom_one, Nat.add_sub_cancel' hle] at hshift

/-- Whole cycles of 400 years, and then fewer than 400 years, lead to the year of the day (R117, R306). -/
theorem yearAndDay_isDayOfYear (d : Nat) : ∃ n k, IsDayOfYear 1970 d n k ∧ yearAndDay d = (1970 + n, k + 1) := by
  have hrest : d % daysIn400Years < daysFrom (1970 + 400 * (d / daysIn400Years)) 400 := by
    rw [daysFrom_400]
    exact Nat.mod_lt d (by decide)
  obtain ⟨n, k, hday, hwalk⟩ := walkYears_isDayOfYear hrest
  refine ⟨400 * (d / daysIn400Years) + n, k, ?_, by rw [yearAndDay, hwalk, Nat.add_assoc]⟩
  have hshift := hday.shift
  rwa [daysFrom_cycles, Nat.div_add_mod] at hshift

/-- Settles O9: the walk's year and day are those of R117, and no other year holds the day. -/
theorem yearAndDayUnique : Obligations.YearAndDayUnique := by
  intro d y doy
  obtain ⟨n, k, hday, heq⟩ := yearAndDay_isDayOfYear d
  rw [heq, Prod.mk.injEq]
  constructor
  · rintro ⟨hy, hfirst, hlast, hd⟩
    have hyear : 1970 + (y - 1970) = y := Nat.add_sub_cancel' hy
    have hday' : IsDayOfYear 1970 d (y - 1970) (doy - 1) := ⟨by rw [hyear]; omega, hd⟩
    obtain ⟨hn, hk⟩ := hday.unique hday'
    omega
  · rintro ⟨rfl, rfl⟩
    obtain ⟨hk, hd⟩ := hday
    exact ⟨Nat.le_add_right _ _, Nat.le_add_left _ _, hk, by simpa using hd⟩

/-! ### The fields of an instant -/

/-- The fields, where they exist, are those of the local second T + ZONE.utcoff(T) (R113). -/
theorem exists_localSecond {c : Config} {t : Nat} {f : Fields} (h : fieldsAt c t = some f) :
    ∃ l : Nat, (l : Int) = t + zoneUtcoff c.zone t ∧ f = fieldsOfLocal c.zone l := by
  obtain ⟨l, hl, hf⟩ := fieldsAt_eq_some h
  exact ⟨l, localSeconds_eq_some hl, hf⟩

/-- Settles O8: on a local second that is not negative, the quotients and remainders of R113 and R114 are those of natural
numbers. -/
theorem localTimeFields : Obligations.LocalTimeFields := by
  intro c t f hf
  obtain ⟨l, hl, rfl⟩ := exists_localSecond hf
  simp only [← hl]
  exact ⟨rfl, rfl, rfl, rfl, rfl, rfl, rfl⟩

theorem fieldsOfLocal_doy_bounds (z : Zone) (l : Nat) :
    1 ≤ (fieldsOfLocal z l).doy ∧ (fieldsOfLocal z l).doy ≤ ylen (fieldsOfLocal z l).year := by
  obtain ⟨-, hfirst, hlast, -⟩ := (yearAndDayUnique (dayOf l) _ _).mpr rfl
  exact ⟨hfirst, hlast⟩

/-- Settles O10: each remainder is below its modulus, and a year has at most 366 days. -/
theorem fieldRanges : Obligations.FieldRanges := by
  intro c t hfits
  obtain ⟨f, hf⟩ := exists_fieldsAt hfits
  obtain ⟨l, -, rfl⟩ := exists_localSecond hf
  obtain ⟨hfirst, hlast⟩ := fieldsOfLocal_doy_bounds c.zone l
  exact ⟨_, hf, Nat.le_of_lt_succ (Fin.isLt _), Nat.le_of_lt_succ (Nat.mod_lt _ (by decide)),
    Nat.le_of_lt_succ (Nat.mod_lt _ (by decide)), hfirst, hlast.trans (ylen_bounds _).2,
    Nat.le_of_lt_succ (Nat.mod_lt _ (by decide)), Nat.le_of_lt_succ (Nat.mod_lt _ (by decide))⟩

/-- A day of a year of the century lies within the century's days. -/
theorem centuryDays_lt {f : Fields} (hfirst : 1 ≤ f.doy) (hlast : f.doy ≤ ylen f.year) : centuryDays f < 36525 := by
  have hyy : yearInCentury f < 100 := Nat.mod_lt _ (by decide)
  have hyear : f.year - yearInCentury f + yearInCentury f = f.year := Nat.sub_add_cancel (Nat.mod_le _ _)
  calc centuryDays f
      < daysFrom (f.year - yearInCentury f) (yearInCentury f) + ylen f.year := by rw [centuryDays]; omega
    _ = daysFrom (f.year - yearInCentury f) (yearInCentury f + 1) := by rw [daysFrom_succ, hyear]
    _ ≤ daysFrom (f.year - yearInCentury f) 100 := daysFrom_mono _ hyy
    _ ≤ 36525 := daysFrom_century_le _

/-- Settles O11: a century has at most 36525 days of 1440 minutes. -/
theorem minuteOfCenturyBound : Obligations.MinuteOfCenturyBound := by
  intro c t f hf
  obtain ⟨l, -, rfl⟩ := exists_localSecond hf
  obtain ⟨hfirst, hlast⟩ := fieldsOfLocal_doy_bounds c.zone l
  have hdays := centuryDays_lt hfirst hlast
  have hhour : (fieldsOfLocal c.zone l).hour < 24 := Nat.mod_lt _ (by decide)
  have hmin : (fieldsOfLocal c.zone l).min < 60 := Nat.mod_lt _ (by decide)
  rw [minuteOfCentury]
  omega

/-! ### The entries that read T -/

/-- What a VAR entry answers, by the bit its function has at T (R188, R252). -/
theorem runVar_eq_withBit {s : State} {f : Fields} {g : Fields → Bool} {b : Bool} (hf : fieldsAt s.cfg s.t = some f)
    (hbit : g f = b) : runVar g s = .next (withBit s b) :=
  hbit ▸ runVar_of_fields g hf

/-- The tens of a value of two digits are read off the value itself (R131). -/
theorem weightBit_tens {v : Nat} (h : v < 100) :
    weightBit v .w80 = decide (80 ≤ v) ∧ weightBit v .w40 = decide (40 ≤ v % 80) ∧
    weightBit v .w20 = decide (20 ≤ v % 40) ∧ weightBit v .w10 = decide (10 ≤ v % 20) := by
  simp only [weightBit, Nat.mod_eq_of_lt h, and_self]

/-- The lowest bit of the last digit is the parity of the value (R131). -/
theorem weightBit_w1 (v : Nat) : weightBit v .w1 = decide (v % 2 = 1) := by
  rw [weightBit, Nat.mod_mod_of_dvd v (by decide : 2 ∣ 10)]

/-- Settles O19: each entry reads a weight of YY, which has two digits. -/
theorem yearEntries : Obligations.YearEntries := by
  refine ⟨⟨decode_encode (i := .yr80) rfl, decode_encode (i := .yr40) rfl, decode_encode (i := .yr20) rfl,
    decode_encode (i := .yr10) rfl, decode_encode (i := .yr8) rfl, decode_encode (i := .yr4) rfl,
    decode_encode (i := .yr2) rfl, decode_encode (i := .yr1) rfl⟩, fun s f hf => ?_⟩
  obtain ⟨h80, h40, h20, h10⟩ := weightBit_tens (v := yearInCentury f) (Nat.mod_lt _ (by decide))
  exact ⟨runVar_eq_withBit hf h80, runVar_eq_withBit hf h40, runVar_eq_withBit hf h20, runVar_eq_withBit hf h10,
    runVar_eq_withBit hf rfl, runVar_eq_withBit hf rfl, runVar_eq_withBit hf rfl,
    runVar_eq_withBit hf (weightBit_w1 (yearInCentury f))⟩

/-- Settles O22: the Gregorian rule of R115, which the model writes on booleans. -/
theorem leapYearEntry : Obligations.LeapYearEntry :=
  ⟨decode_encode (i := .lyi) rfl, fun _ f hf => runVar_eq_withBit hf (leap_eq_decide f.year)⟩

/-- Settles O23: the two DST fields are ZONE's answers about the local day. -/
theorem dstEntries : Obligations.DstEntries := by
  refine ⟨⟨decode_encode (i := .dste) rfl, decode_encode (i := .dsts) rfl⟩, fun s hfits => ?_⟩
  obtain ⟨f, hf⟩ := exists_fieldsAt hfits
  obtain ⟨-, -, -, -, hdsts, hdste, -⟩ := localTimeFields s.cfg s.t f hf
  exact ⟨runVar_eq_withBit hf hdste, runVar_eq_withBit hf hdsts⟩

/-! ### A negative local time -/

theorem fieldsAt_eq_none {c : Config} {t : Nat} (h : (t : Int) + zoneUtcoff c.zone t < 0) : fieldsAt c t = none := by
  rw [fieldsAt, localSeconds, if_neg (Int.not_le.mpr h), Option.map_none]

theorem runVar_of_no_fields {s : State} (g : Fields → Bool) (h : fieldsAt s.cfg s.t = none) :
    runVar g s = .refused .zoneConstraint := by
  rw [runVar, h]

theorem runPhaseBit_of_no_fields {s : State} (g : Config → Fields → Bool) (h : fieldsAt s.cfg s.t = none) :
    runPhaseBit g s = .refused .zoneConstraint := by
  rw [runPhaseBit, h]

/-- Every entry but the five fixed ones reads the fields at T: a VAR entry by its function, a phase entry with an operand in
range by its rule. -/
theorem exec_reads_fields {i : Instr} (hwf : i.wellFormed = true) (hentry : i.format ≠ .cmd)
    (hfixed : i ∉ [Instr.mark, .fzero, .fone, .pfix0, .pfix1]) (s : State) :
    (∃ g, exec i s = runVar g s) ∨ ∃ g, exec i s = runPhaseBit g s := by
  cases i with
  | mark | fzero | fone | pfix0 | pfix1 => exact absurd (by decide) hfixed
  | hold | tick | load => exact absurd rfl hentry
  | ptime n => exact .inr ⟨phaseTime n, if_pos ((wellFormed_ptime_iff n).mp hwf)⟩
  | pecc k => exact .inr ⟨phaseEcc k, if_pos ((wellFormed_pecc_iff k).mp hwf)⟩
  | pdst j => exact .inr ⟨phaseDst j, if_pos ((wellFormed_pdst_iff j).mp hwf)⟩
  | _ => exact .inl ⟨_, rfl⟩

/-- Settles O24: the fields such an entry reads do not exist. -/
theorem negativeLocalTimeRefused : Obligations.NegativeLocalTimeRefused := by
  intro s i hneg hwf hentry hfixed
  have hnone := fieldsAt_eq_none hneg
  rcases exec_reads_fields hwf hentry hfixed s with ⟨g, hexec⟩ | ⟨g, hexec⟩
  · exact hexec.trans (runVar_of_no_fields g hnone)
  · exact hexec.trans (runPhaseBit_of_no_fields g hnone)

end Sys2Proof.Machine
end

section
/-! The statements about the Calendar Bit Functions (41_calendar_bits.md). A weight taken off a remainder below twice its
value leaves the remainder modulo the weight; the sums of the transmitted weights follow from that, digit by digit. The
parity bits are an exclusive or along a list, which is true where an odd number of its bits are. -/

namespace Sys2Proof.Machine

/-! ### The weights of a value -/

theorem weightBit_of_lt_value {v : Nat} {w : Weight} (h : v < w.value) : weightBit v w = false := by
  cases w <;> simp only [weightBit, Weight.value, decide_eq_false_iff_not] at h ⊢ <;> omega

/-- The lower weights of a value of one digit are read off the value itself (R131). -/
theorem weightBit_units {v : Nat} (h : v < 10) :
    weightBit v .w4 = decide (4 ≤ v % 8) ∧ weightBit v .w2 = decide (2 ≤ v % 4) := by
  simp only [weightBit, Nat.mod_eq_of_lt h, and_self]

/-- One weight of the decimal code, taken off a remainder below twice its value, leaves the next remainder (R131). -/
theorem weight_add_mod {w x : Nat} (h : x < 2 * w) : w * (decide (w ≤ x)).toNat + x % w = x := by
  by_cases hw : w ≤ x
  · have hrest : x % w = x - w := by rw [Nat.mod_eq_sub_mod hw, Nat.mod_eq_of_lt (by omega)]
    simp [hw, hrest]
  · simp [hw, Nat.mod_eq_of_lt (Nat.lt_of_not_le hw)]

theorem toNat_decide_mod_two (v : Nat) : (decide (v % 2 = 1)).toNat = v % 2 := by
  rcases Nat.mod_two_eq_zero_or_one v with h | h <;> simp [h]

theorem weights_units_sum (v : Nat) :
    8 * (weightBit v .w8).toNat + 4 * (weightBit v .w4).toNat + 2 * (weightBit v .w2).toNat + (weightBit v .w1).toNat =
      v % 10 := by
  have h8 : 8 * (weightBit v .w8).toNat + v % 10 % 8 = v % 10 := weight_add_mod (by omega)
  have h4 : 4 * (weightBit v .w4).toNat + v % 10 % 8 % 4 = v % 10 % 8 := weight_add_mod (by omega)
  have h2 : 2 * (weightBit v .w2).toNat + v % 10 % 4 % 2 = v % 10 % 4 := weight_add_mod (by omega)
  have h1 : (weightBit v .w1).toNat = v % 10 % 2 := toNat_decide_mod_two _
  omega

theorem weights_tens_sum (v : Nat) :
    80 * (weightBit v .w80).toNat + 40 * (weightBit v .w40).toNat + 20 * (weightBit v .w20).toNat +
      10 * (weightBit v .w10).toNat + v % 10 = v % 100 := by
  have h80 : 80 * (weightBit v .w80).toNat + v % 100 % 80 = v % 100 := weight_add_mod (by omega)
  have h40 : 40 * (weightBit v .w40).toNat + v % 100 % 80 % 40 = v % 100 % 80 := weight_add_mod (by omega)
  have h20 : 20 * (weightBit v .w20).toNat + v % 100 % 40 % 20 = v % 100 % 40 := weight_add_mod (by omega)
  have h10 : 10 * (weightBit v .w10).toNat + v % 100 % 20 % 10 = v % 100 % 20 := weight_add_mod (by omega)
  omega

theorem weights_hundreds_sum (v : Nat) :
    200 * (weightBit v .w200).toNat + 100 * (weightBit v .w100).toNat + v % 100 = v % 400 := by
  have h200 : 200 * (weightBit v .w200).toNat + v % 400 % 200 = v % 400 := weight_add_mod (by omega)
  have h100 : 100 * (weightBit v .w100).toNat + v % 200 % 100 = v % 200 := weight_add_mod (by omega)
  omega

/-! ### The sums of R132, by the highest weight a field transmits -/

theorem weights_from_w200_sum {v : Nat} (h : v < 400) :
    200 * (weightBit v .w200).toNat + 100 * (weightBit v .w100).toNat + 80 * (weightBit v .w80).toNat +
      40 * (weightBit v .w40).toNat + 20 * (weightBit v .w20).toNat + 10 * (weightBit v .w10).toNat +
      8 * (weightBit v .w8).toNat + 4 * (weightBit v .w4).toNat + 2 * (weightBit v .w2).toNat +
      (weightBit v .w1).toNat = v := by
  have hhundreds := weights_hundreds_sum v
  have htens := weights_tens_sum v
  have hunits := weights_units_sum v
  omega

theorem weights_from_w80_sum {v : Nat} (h : v < 100) :
    80 * (weightBit v .w80).toNat + 40 * (weightBit v .w40).toNat + 20 * (weightBit v .w20).toNat +
      10 * (weightBit v .w10).toNat + 8 * (weightBit v .w8).toNat + 4 * (weightBit v .w4).toNat +
      2 * (weightBit v .w2).toNat + (weightBit v .w1).toNat = v := by
  have htens := weights_tens_sum v
  have hunits := weights_units_sum v
  omega

theorem weights_from_w40_sum {v : Nat} (h : v < 80) :
    40 * (weightBit v .w40).toNat + 20 * (weightBit v .w20).toNat + 10 * (weightBit v .w10).toNat +
      8 * (weightBit v .w8).toNat + 4 * (weightBit v .w4).toNat + 2 * (weightBit v .w2).toNat +
      (weightBit v .w1).toNat = v := by
  simpa [weightBit_of_lt_value (w := .w80) h] using weights_from_w80_sum (v := v) (by omega)

theorem weights_from_w20_sum {v : Nat} (h : v < 40) :
    20 * (weightBit v .w20).toNat + 10 * (weightBit v .w10).toNat + 8 * (weightBit v .w8).toNat +
      4 * (weightBit v .w4).toNat + 2 * (weightBit v .w2).toNat + (weightBit v .w1).toNat = v := by
  simpa [weightBit_of_lt_value (w := .w40) h] using weights_from_w40_sum (v := v) (by omega)

theorem weights_from_w4_sum {v : Nat} (h : v < 8) :
    4 * (weightBit v .w4).toNat + 2 * (weightBit v .w2).toNat + (weightBit v .w1).toNat = v := by
  simpa [weightBit_of_lt_value (w := .w8) h, Nat.mod_eq_of_lt (by omega : v < 10)] using weights_units_sum v

/-- The ranges of R121 for a given fields record. -/
theorem fieldsAt_ranges {c : Config} {t : Nat} {f : Fields} (hf : fieldsAt c t = some f) :
    f.min ≤ 59 ∧ f.hour ≤ 23 ∧ f.doy ≤ 366 ∧ f.wd ≤ 6 := by
  have hfits : ZoneFits c t := (fieldsAt_isSome_iff c t).mp (Option.isSome_of_eq_some hf)
  obtain ⟨f', hf', -, hmin, hhour, -, hdoy, -, hwd⟩ := fieldRanges c t hfits
  obtain rfl : f' = f := Option.some.inj (hf'.symm.trans hf)
  exact ⟨hmin, hhour, hdoy, hwd⟩

/-- Settles O13: each field is below twice the highest weight it transmits, or has at most two digits. -/
theorem bcdRoundTrip : Obligations.BcdRoundTrip := by
  intro c t f hf
  obtain ⟨hmin, hhour, hdoy, hwd⟩ := fieldsAt_ranges hf
  exact ⟨weights_from_w40_sum (by omega), weights_from_w20_sum (by omega), weights_from_w200_sum (by omega),
    weights_from_w80_sum (Nat.mod_lt _ (by decide)), weights_from_w4_sum (by omega)⟩

/-! ### The entries -/

/-- Settles O16: a minute is below 80, so its highest weight is a comparison. -/
theorem minuteEntries : Obligations.MinuteEntries := by
  refine ⟨⟨decode_encode (i := .min40) rfl, decode_encode (i := .min20) rfl, decode_encode (i := .min10) rfl,
    decode_encode (i := .min8) rfl, decode_encode (i := .min4) rfl, decode_encode (i := .min2) rfl,
    decode_encode (i := .min1) rfl⟩, fun s f hf => ?_⟩
  obtain ⟨hmin, -⟩ := fieldsAt_ranges hf
  obtain ⟨-, h40, h20, h10⟩ := weightBit_tens (v := f.min) (by omega)
  rw [Nat.mod_eq_of_lt (by omega : f.min < 80)] at h40
  exact ⟨runVar_eq_withBit hf h40, runVar_eq_withBit hf h20, runVar_eq_withBit hf h10, runVar_eq_withBit hf rfl,
    runVar_eq_withBit hf rfl, runVar_eq_withBit hf rfl, runVar_eq_withBit hf (weightBit_w1 f.min)⟩

/-- Settles O17: an hour is below 40, so its highest weight is a comparison. -/
theorem hourEntries : Obligations.HourEntries := by
  refine ⟨⟨decode_encode (i := .hr20) rfl, decode_encode (i := .hr10) rfl, decode_encode (i := .hr8) rfl,
    decode_encode (i := .hr4) rfl, decode_encode (i := .hr2) rfl, decode_encode (i := .hr1) rfl⟩, fun s f hf => ?_⟩
  obtain ⟨-, hhour, -⟩ := fieldsAt_ranges hf
  obtain ⟨-, -, h20, h10⟩ := weightBit_tens (v := f.hour) (by omega)
  rw [Nat.mod_eq_of_lt (by omega : f.hour < 40)] at h20
  exact ⟨runVar_eq_withBit hf h20, runVar_eq_withBit hf h10, runVar_eq_withBit hf rfl, runVar_eq_withBit hf rfl,
    runVar_eq_withBit hf rfl, runVar_eq_withBit hf (weightBit_w1 f.hour)⟩

/-- Settles O18: a day of the year is below 400, so its highest weight is a comparison; the tens are those of DOY mod 100
as R131 writes them. -/
theorem dayOfYearEntries : Obligations.DayOfYearEntries := by
  refine ⟨⟨decode_encode (i := .doy200) rfl, decode_encode (i := .doy100) rfl, decode_encode (i := .doy80) rfl,
    decode_encode (i := .doy40) rfl, decode_encode (i := .doy20) rfl, decode_encode (i := .doy10) rfl,
    decode_encode (i := .doy8) rfl, decode_encode (i := .doy4) rfl, decode_encode (i := .doy2) rfl,
    decode_encode (i := .doy1) rfl⟩, fun s f hf => ?_⟩
  obtain ⟨-, -, hdoy, -⟩ := fieldsAt_ranges hf
  have h200 : weightBit f.doy .w200 = decide (200 ≤ f.doy) := by
    rw [weightBit, Nat.mod_eq_of_lt (by omega : f.doy < 400)]
  exact ⟨runVar_eq_withBit hf h200, runVar_eq_withBit hf rfl, runVar_eq_withBit hf rfl, runVar_eq_withBit hf rfl,
    runVar_eq_withBit hf rfl, runVar_eq_withBit hf rfl, runVar_eq_withBit hf rfl, runVar_eq_withBit hf rfl,
    runVar_eq_withBit hf rfl, runVar_eq_withBit hf (weightBit_w1 f.doy)⟩

/-- Settles O20: a weekday is one digit below 8. -/
theorem weekdayEntries : Obligations.WeekdayEntries := by
  refine ⟨⟨decode_encode (i := .wd4) rfl, decode_encode (i := .wd2) rfl, decode_encode (i := .wd1) rfl⟩, fun s f hf => ?_⟩
  obtain ⟨-, -, -, hwd⟩ := fieldsAt_ranges hf
  obtain ⟨h4, h2⟩ := weightBit_units (v := f.wd) (by omega)
  rw [Nat.mod_eq_of_lt (by omega : f.wd < 8)] at h4
  exact ⟨runVar_eq_withBit hf h4, runVar_eq_withBit hf h2, runVar_eq_withBit hf (weightBit_w1 f.wd)⟩

/-! ### Parity -/

theorem foldl_xor_eq_decide_count (b : Bool) (l : List Bool) :
    l.foldl xor b = decide ((b :: l).count true % 2 = 1) := by
  induction l generalizing b with
  | nil => cases b <;> rfl
  | cons c l ih =>
    rw [List.foldl_cons, ih, decide_eq_decide]
    cases b with
    | false => simp
    | true =>
      cases c with
      | false => simp
      | true =>
        have hpair : (true :: true :: l).count true = l.count true + 2 := by simp
        rw [hpair, Nat.add_mod_right, Bool.xor_self, List.count_cons_of_ne Bool.false_ne_true]

theorem bitPa1_eq_decide_count (f : Fields) :
    bitPa1 f = decide (
      ([bitHr20 f, bitHr10 f, bitHr8 f, bitHr4 f, bitHr2 f, bitHr1 f].count true) % 2 = 1) := by
  rw [← foldl_xor_eq_decide_count, bitPa1]
  simp only [List.foldl_cons, List.foldl_nil]

theorem bitPa2_eq_decide_count (f : Fields) :
    bitPa2 f = decide (
      ([bitMin40 f, bitMin20 f, bitMin10 f, bitMin8 f, bitMin4 f, bitMin2 f, bitMin1 f].count true) % 2 = 1) := by
  rw [← foldl_xor_eq_decide_count, bitPa2]
  simp only [List.foldl_cons, List.foldl_nil]

/-- Settles O14: the bits after a parity bit are that parity bit once more. -/
theorem evenParity : Obligations.EvenParity := by
  intro f
  constructor
  · calc (bitPa1 f ^^ bitHr20 f ^^ bitHr10 f ^^ bitHr8 f ^^ bitHr4 f ^^ bitHr2 f ^^ bitHr1 f)
        = (bitPa1 f ^^ bitPa1 f) := by simp only [bitPa1, Bool.xor_assoc]
      _ = false := Bool.xor_self _
  · calc (bitPa2 f ^^ bitMin40 f ^^ bitMin20 f ^^ bitMin10 f ^^ bitMin8 f ^^ bitMin4 f ^^ bitMin2 f ^^ bitMin1 f)
        = (bitPa2 f ^^ bitPa2 f) := by simp only [bitPa2, Bool.xor_assoc]
      _ = false := Bool.xor_self _

/-- Settles O21: the exclusive or of the bits is the parity of their count. -/
theorem parityEntries : Obligations.ParityEntries :=
  ⟨⟨decode_encode (i := .pa1) rfl, decode_encode (i := .pa2) rfl⟩, fun _ f hf =>
    ⟨runVar_eq_withBit hf (bitPa1_eq_decide_count f), runVar_eq_withBit hf (bitPa2_eq_decide_count f)⟩⟩

end Sys2Proof.Machine
end

section
/-! The statements about the Second Symbol Table (42_symbol_dispatch.md). A word decodes to MARK when it is MARK's own word;
the dispatch runs an entry by the meaning `exec` gives it, since an AD word decodes to an AD instruction; and only SEC tells
the seconds of a local minute apart. -/

namespace Sys2Proof.Machine

/-! ### The fields within a minute -/

theorem div_eq_of_div_sixty_eq {l l' : Nat} (h : l / 60 = l' / 60) (n : Nat) : l / (60 * n) = l' / (60 * n) := by
  rw [← Nat.div_div_eq_div_mul, h, Nat.div_div_eq_div_mul]

/-- Every field but SEC is read off the local minute L div 60: hours and days are whole minutes (R113). -/
theorem fieldsOfLocal_of_same_minute (z : Zone) {l l' : Nat} (h : l / 60 = l' / 60) :
    fieldsOfLocal z l' = { fieldsOfLocal z l with sec := (fieldsOfLocal z l').sec } := by
  have hmin : minOf l' = minOf l := congrArg (· % 60) h.symm
  have hhour : hourOf l' = hourOf l := congrArg (· % 24) (div_eq_of_div_sixty_eq h 60).symm
  have hday : dayOf l' = dayOf l := (div_eq_of_div_sixty_eq h 1440).symm
  simp only [fieldsOfLocal, hmin, hhour, hday]

/-- Settles O12: both instants have a local second, and the two lie in one minute. -/
theorem fieldsWithinMinute : Obligations.FieldsWithinMinute := by
  intro c t t' f f' hf hf' hminute
  obtain ⟨l, hl, rfl⟩ := exists_localSecond hf
  obtain ⟨l', hl', rfl⟩ := exists_localSecond hf'
  rw [← hl, ← hl'] at hminute
  exact fieldsOfLocal_of_same_minute c.zone (by omega)

/-! ### The entries and their dispatch -/

/-- Settles O15: none of the three reads T, and THR is all that a Symbol writes. -/
theorem fixedEntries : Obligations.FixedEntries := fun _ => ⟨rfl, rfl, rfl⟩

/-- The table runs an instruction of format AD by the meaning it has alone; the other formats never stand in AMP_ROM. -/
theorem runAmpEntry_eq_exec {i : Instr} (h : i.format = .ad) (s : State) : runAmpEntry i s = exec i s := by
  cases i with
  | pfix0 | pfix1 | ptime | pecc | pdst | hold | tick | load => cases h
  | _ => rfl

/-- The dispatch, where the fields exist and the word at SEC is defined (R180). -/
theorem dispatchAmp_of_decode {s : State} {f : Fields} {i : Instr} (hf : fieldsAt s.cfg s.t = some f)
    (hword : decode .ad (readAmpRom s.cfg f.sec) = .ok i) : dispatchAmp s = runAmpEntry i s.askZone := by
  simp only [dispatchAmp, hf, hword]

/-- Settles O25: a decoded AD word is an AD instruction. -/
theorem amplitudeDispatchRunsEntry : Obligations.AmplitudeDispatchRunsEntry := by
  intro s f i hf hword
  obtain ⟨-, hformat, -⟩ := encode_of_decodeAmp hword
  exact (dispatchAmp_of_decode hf hword).trans (runAmpEntry_eq_exec hformat s.askZone)

/-! ### The default tables -/

/-- MARK has one word (R82, R86). -/
theorem decode_ad_eq_mark_iff (w : DispatchWord) : decode .ad w = .ok .mark ↔ w = 0x00#8 := by
  constructor
  · intro h
    obtain ⟨-, -, hword⟩ := encode_of_decodeAmp h
    exact hword.symm
  · rintro rfl
    exact decode_encode (i := .mark) rfl

theorem defaultAmpRomA_eq_zero_iff : ∀ sec : Fin 60,
    defaultAmpRomA[sec.val]'(Nat.lt_succ_of_lt sec.isLt) = 0x00#8 ↔ sec.val ∈ [0, 9, 19, 29, 39, 49, 59] := by
  decide

theorem defaultAmpRomB_eq_zero_iff : ∀ sec : Fin 60,
    defaultAmpRomB[sec.val]'(Nat.lt_succ_of_lt sec.isLt) = 0x00#8 ↔ sec.val ∈ [0, 9, 19, 29, 39, 49, 59] := by
  decide

/-- Settles O26: the seconds of MARK are those whose printed word (R186, R187) is zero. -/
theorem defaultMarkSeconds : Obligations.DefaultMarkSeconds := fun sec =>
  ⟨(decode_ad_eq_mark_iff _).trans (defaultAmpRomA_eq_zero_iff sec),
    (decode_ad_eq_mark_iff _).trans (defaultAmpRomB_eq_zero_iff sec)⟩

end Sys2Proof.Machine
end

section
/-! The statements about the Phase-Overlay Encoder (43_phase_overlay.md). An entry that reads T writes the offset of its
Phase Symbol; PECC's fold keeps the parity of the covered bits and the accumulator together; a window runs over minutes
10 to 15 of a half hour, where MIN div 17 does not change. -/

namespace Sys2Proof.Machine

/-! ### The entries that read T -/

/-- What a phase entry that reads T answers, by the Phase Symbol its rule gives there (R218, R251). -/
theorem runPhaseBit_eq_withPhase {s : State} {f : Fields} {g : Config → Fields → Bool} {b : Bool}
    (hf : fieldsAt s.cfg s.t = some f) (hbit : g s.cfg f = b) : runPhaseBit g s = .next (withPhase s b) :=
  hbit ▸ runPhaseBit_of_fields g hf

theorem exec_ptime_of_le {n : Nat} (h : n ≤ 25) (s : State) : exec (.ptime n) s = runPhaseBit (phaseTime n) s :=
  (exec_ptime n s).trans (if_pos h)

theorem exec_pecc_of_le {k : Nat} (h : k ≤ 4) (s : State) : exec (.pecc k) s = runPhaseBit (phaseEcc k) s :=
  (exec_pecc k s).trans (if_pos h)

theorem exec_pdst_of_le {j : Nat} (h : j ≤ 1) (s : State) : exec (.pdst j) s = runPhaseBit (phaseDst j) s :=
  (exec_pdst j s).trans (if_pos h)

/-- TimeBit(i) is bit i of MOC as Lean numbers bits (R58, R120). -/
theorem timeBit_eq_testBit (f : Fields) (i : Nat) : timeBit f i = (minuteOfCentury f).testBit i :=
  Nat.testBit_eq_decide_div_mod_eq.symm

/-- R208 covers the indexes that have bit k set. -/
theorem and_one_shiftLeft_ne_zero_iff (i k : Nat) : i &&& (1 <<< k) ≠ 0 ↔ i.testBit k = true := by
  rw [Nat.one_shiftLeft, Nat.and_two_pow]
  cases i.testBit k <;> simp

/-- A fold of exclusive or over the bits `q` that `p` covers completes their number of ones to the parity it starts at. -/
theorem count_add_foldl_xor_mod_two (p q : Nat → Bool) (l : List Nat) (b : Bool) :
    ((l.filter fun i => p i && q i).length + (l.foldl (fun a i => if p i = true then a ^^ q i else a) b).toNat) % 2 =
      b.toNat := by
  induction l generalizing b with
  | nil => cases b <;> rfl
  | cons i l ih =>
    cases hp : p i with
    | false => simpa [hp] using ih b
    | true =>
      cases hq : q i with
      | false => simpa [hp, hq] using ih b
      | true =>
        have hflip : (!b).toNat = 1 - b.toNat := by cases b <;> rfl
        have hrest := ih (!b)
        simp only [List.filter_cons, List.foldl_cons, hp, hq, Bool.and_self, if_true, List.length_cons, Bool.xor_true]
        have hle := b.toNat_le
        omega

theorem phaseEcc_completes_parity (k : Nat) (c : Config) (f : Fields) :
    (((List.range' 1 25).filter fun i => i.testBit k && (minuteOfCentury f).testBit i).length + (phaseEcc k c f).toNat) % 2 =
      c.eccOdd.toNat := by
  simp only [phaseEcc, and_one_shiftLeft_ne_zero_iff, timeBit_eq_testBit]
  exact count_add_foldl_xor_mod_two (·.testBit k) (minuteOfCentury f).testBit (List.range' 1 25) c.eccOdd

/-- Settles O27: neither reads T, and POFF is all that a Phase Symbol writes. -/
theorem fixedPhaseEntries : Obligations.FixedPhaseEntries :=
  ⟨⟨decode_encode (i := .pfix0) rfl, decode_encode (i := .pfix1) rfl⟩, fun _ => ⟨rfl, rfl⟩⟩

/-- Settles O28: the word is PTIME n's own, and its Phase Symbol is TimeBit(n). -/
theorem timeBitEntry : Obligations.TimeBitEntry := fun s _ n hf hn =>
  ⟨decode_encode ((wellFormed_ptime_iff n).mpr hn),
    (exec_ptime_of_le hn s).trans (runPhaseBit_eq_withPhase hf rfl)⟩

/-- Settles O29: the fold of R208 starts at ECC_ODD. -/
theorem parityOverlayEntry : Obligations.ParityOverlayEntry := fun s f k hf hk =>
  ⟨phaseEcc k s.cfg f, (exec_pecc_of_le hk s).trans (runPhaseBit_eq_withPhase hf rfl),
    phaseEcc_completes_parity k s.cfg f⟩

/-- Settles O30: the word is PDST j's own, and its Phase Symbol is the entry of DSTLS. -/
theorem dstCompositeEntry : Obligations.DstCompositeEntry := fun s _ j hf hj =>
  ⟨decode_encode ((wellFormed_pdst_iff j).mpr hj),
    (exec_pdst_of_le hj s).trans (runPhaseBit_eq_withPhase hf rfl)⟩

/-! ### The six-minute windows -/

theorem inWindow_eq_true_iff (f : Fields) : inWindow f = true ↔ 10 ≤ f.min % 30 ∧ f.min % 30 ≤ 15 := by
  rw [inWindow, Bool.and_eq_true, decide_eq_true_iff, decide_eq_true_iff]

/-- A window is 360 seconds long (R210, R211). -/
theorem subFrame_le_of_inWindow {f : Fields} (h : inWindow f = true) : subFrame f ≤ 359 := by
  obtain ⟨hfirst, hlast⟩ := (inWindow_eq_true_iff f).mp h
  have hsec := f.sec.isLt
  rw [subFrame]
  omega

theorem toNat_emod_127_le (x : Int) : (x % 127).toNat ≤ 126 := by omega

/-- The first sub-range (R213). -/
theorem windowBit_of_lt_127 (c : Config) {f : Fields} (h : subFrame f < 127) :
    windowBit c f = seqBit c (descendingIndex c f) := if_pos h

/-- The second sub-range (R214). -/
theorem windowBit_of_lt_233 (c : Config) {f : Fields} (hlo : 127 ≤ subFrame f) (hhi : subFrame f < 233) :
    windowBit c f = readTimingWord c (subFrame f - 127) := by
  rw [windowBit, if_neg (Nat.not_lt_of_le hlo), if_pos hhi]

/-- The third sub-range (R213). -/
theorem windowBit_of_233_le (c : Config) {f : Fields} (h : 233 ≤ subFrame f) :
    windowBit c f = seqBit c (ascendingIndex c f) := by
  rw [windowBit, if_neg (by omega), if_neg (Nat.not_lt_of_le h)]

/-- HHI is the same throughout a window: no multiple of 17 lies within minutes 11 to 15 or 41 to 45 (R212). -/
theorem halfHourIndex_eq_of_same_window (c : Config) {f g : Fields} (hf : inWindow f = true) (hg : inWindow g = true)
    (hhour : f.hour = g.hour) (hhalf : f.min / 30 = g.min / 30) (hmin : f.min ≤ 59) (hdste : f.dste = g.dste)
    (hdsts : f.dsts = g.dsts) : halfHourIndex c f = halfHourIndex c g := by
  obtain ⟨hf10, hf15⟩ := (inWindow_eq_true_iff f).mp hf
  obtain ⟨hg10, hg15⟩ := (inWindow_eq_true_iff g).mp hg
  have hhalves : f.min / 30 = 0 ∨ f.min / 30 = 1 := by omega
  have hdiv : f.min / 17 = g.min / 17 := by omega
  rw [halfHourIndex, halfHourIndex, hhour, hdiv, hdste, hdsts]

/-- The two lookups meet at offsets that add up to 359, since 126 + 233 = 359 (R213). -/
theorem descendingIndex_eq_ascendingIndex {c : Config} {f g : Fields} (hindex : halfHourIndex c f = halfHourIndex c g)
    (hsum : subFrame f + subFrame g = 359) : descendingIndex c f = ascendingIndex c g := by
  have harg : halfHourIndex c f + 126 - (subFrame f : Int) = halfHourIndex c g + (subFrame g : Int) - 233 := by omega
  rw [descendingIndex, ascendingIndex, harg]

/-- Settles O33: both lookups are remainders modulo 127, and the timing word has 106 seconds. -/
theorem windowIndexBounds : Obligations.WindowIndexBounds := fun _ _ hwindow =>
  ⟨subFrame_le_of_inWindow hwindow, toNat_emod_127_le _, toNat_emod_127_le _, fun _ hhi => by omega⟩

/-- Settles O34: one lemma per sub-range. -/
theorem windowSymbol : Obligations.WindowSymbol := by
  rintro c f t hhi - rfl rfl
  exact ⟨windowBit_of_lt_127 c, windowBit_of_lt_233 c, windowBit_of_233_le c⟩

/-- Settles O35: one second is in the first sub-range, the other in the third, and both look up the same index. -/
theorem windowMirror : Obligations.WindowMirror := by
  intro c f g hf hg hhour hhalf hmin _ hdste hdsts hfirst hsum
  have hindex := halfHourIndex_eq_of_same_window c hf hg hhour hhalf hmin hdste hdsts
  calc windowBit c f
      = seqBit c (descendingIndex c f) := windowBit_of_lt_127 c hfirst
    _ = seqBit c (ascendingIndex c g) := by rw [descendingIndex_eq_ascendingIndex hindex hsum]
    _ = windowBit c g := (windowBit_of_233_le c (by omega)).symm

/-! ### The phase function -/

/-- The encoder runs an instruction of format PD by the meaning it has alone; the other formats never stand in PH_ROM. -/
theorem runPhaseEntry_eq_exec {i : Instr} (h : i.format = .pd) (s : State) : runPhaseEntry i s = exec i s := by
  cases i with
  | pfix0 | pfix1 | ptime | pecc | pdst => rfl
  | _ => cases h

/-- Inside a window no entry is read (R202). -/
theorem dispatchPhase_of_inWindow {s : State} {f : Fields} (hf : fieldsAt s.cfg s.t = some f) (h : inWindow f = true) :
    dispatchPhase s = .next (withPhase s.askZone (windowBit s.cfg f)) := by
  simp only [dispatchPhase, hf, h, if_true]
  exact setPhase_eq (windowBit s.cfg f) s.askZone

/-- Outside the windows the entry at SEC runs, where its word is defined (R201). -/
theorem dispatchPhase_of_decode {s : State} {f : Fields} {i : Instr} (hf : fieldsAt s.cfg s.t = some f)
    (h : ¬inWindow f = true) (hword : decode .pd (readPhRom s.cfg f.sec) = .ok i) :
    dispatchPhase s = runPhaseEntry i s.askZone := by
  simp only [dispatchPhase, hf, hword, if_neg h]

/-- Settles O32: the window comes first, and a decoded PD word is a PD instruction. -/
theorem phaseDispatchRunsEntry : Obligations.PhaseDispatchRunsEntry := by
  intro s f hf
  rw [← inWindow_eq_true_iff]
  refine ⟨dispatchPhase_of_inWindow hf, fun hwindow i hword => ?_⟩
  obtain ⟨-, hformat, -⟩ := encode_of_decodePhase hword
  exact (dispatchPhase_of_decode hf hwindow hword).trans (runPhaseEntry_eq_exec hformat s.askZone)

end Sys2Proof.Machine
end

section
/-! The statements about the Wavetable Synthesizer (44_wavetable.md). The attenuation of R234 truncates toward zero, so it
is odd and never grows; half of TLEN times CYCLES is a half modulo TLEN exactly when CYCLES is odd; a TICK shows one read
of a wavetable, at the phase offset it leaves. -/

namespace Sys2Proof.Machine

/-! ### The attenuation -/

/-- R234 truncates toward zero, so a negative entry is attenuated as its positive; flooring would not be odd. -/
theorem attenuate_neg (num den : Nat) (h : Int) : attenuate num den (-h) = -attenuate num den h := by
  rw [attenuate, attenuate, neg_mul, Int.neg_tdiv]

/-- LOW_RATIO is at most 1, so no entry grows. -/
theorem natAbs_attenuate_le {num den : Nat} (hratio : num ≤ den) (h : Int) :
    (attenuate num den h).natAbs ≤ h.natAbs := by
  rw [attenuate, Int.natAbs_tdiv, Int.natAbs_mul, Int.natAbs_natCast, Int.natAbs_natCast]
  exact Nat.div_le_of_le_mul (by rw [Nat.mul_comm den]; exact Nat.mul_le_mul_left _ hratio)

theorem getElem?_populateLow (num den : Nat) (high : List Int) (i : Nat) :
    (populateLow num den high)[i]? = high[i]?.map (attenuate num den) := List.getElem?_map

/-- Settles O36: LOW_TABLE is HIGH_TABLE entry by entry, through an odd function. -/
theorem lowTableInverts : Obligations.LowTableInverts := by
  intro c hlow
  rw [LowPopulated] at hlow
  rw [hlow]
  refine ⟨length_populateLow _ _ _, fun hinverts i hi => ?_⟩
  rw [getElem?_populateLow, getElem?_populateLow, hinverts i hi, Option.map_map, Option.map_map]
  exact congrArg (c.highTable[i]?.map ·) (funext (attenuate_neg c.lowRatioNum c.lowRatioDen))

/-! ### The default rotation -/

/-- Half a table, taken `n` times, is half a table again only if the table has a half and `n` is odd. -/
theorem even_and_odd_of_half_mul_mod {m n : Nat} (hpos : 0 < m) (h : 2 * (m / 2 * n % m) = m) :
    m % 2 = 0 ∧ n % 2 = 1 := by
  obtain ⟨k, rfl⟩ : ∃ k, m = k * 2 := ⟨_, by rw [Nat.mul_comm]; exact h.symm⟩
  have hk : 0 < k := by omega
  rw [Nat.mul_div_cancel k Nat.two_pos, Nat.mul_mod_mul_left] at h
  have hone : k * (n % 2) = k * 1 := by omega
  exact ⟨Nat.mul_mod_left k 2, Nat.eq_of_mul_eq_mul_left hk hone⟩

/-- Settles O37: check 3 at the default ROT; check 1 keeps TLEN above 0. -/
theorem rotationIsHalfCycle : Obligations.RotationIsHalfCycle := by
  intro c hconfig hproto hrot
  obtain ⟨-, -, hhalf, -⟩ := (configError_eq_none_iff c).mp hconfig
  have hexact := (rotNotHalfCycleFails_eq_false_iff c).mp hhalf hproto
  rw [hrot] at hexact
  exact even_and_odd_of_half_mul_mod (tlen_pos_of_configError hconfig) hexact

/-! ### The sample a TICK emits -/

/-- The boundary comes after the emission and leaves the sample, its level and POFF (R248, R250). -/
theorem boundaryIfDue_keeps_sample {s u : State} (h : boundaryIfDue s = .next u) :
    u.sampleO = s.sampleO ∧ u.ampO = s.ampO ∧ u.poff = s.poff := by
  rcases boundaryIfDue_eq_next h with ⟨-, rfl⟩ | ⟨-, -, y, -, rfl⟩ <;> exact ⟨rfl, rfl, rfl⟩

/-- A valid TICK shows one entry of the table its amp_o names, read at the POFF it leaves: the phase query writes POFF
before the read, and nothing writes it after (R248, R249). -/
theorem execTick_sample {s u : State} (hvalid : s.valid = true) (h : execTick s = .next u) :
    ∃ amp, u.ampO = decide (amp = .high) ∧
      readWavetable s.cfg amp ((s.wti + u.poff) % s.cfg.tlen) = some u.sampleO := by
  rcases execTick_eq_next h with ⟨hrefused, -⟩ | ⟨-, s1, v, hquery, hread, hboundary⟩
  · rw [hvalid] at hrefused; cases hrefused
  · obtain ⟨p, z, rfl, -⟩ := phaseQuery_writes hquery
    obtain ⟨hsample, hamp, hpoff⟩ := boundaryIfDue_keeps_sample hboundary
    rw [hsample, hpoff]
    exact ⟨_, hamp, hread⟩

/-- Whatever the tables hold, a read answers SW bits (R239). -/
theorem readWavetable_bounds {c : Config} {amp : Level} {i : Nat} {v : Int} (h : readWavetable c amp i = some v) :
    -(2 ^ (c.sw - 1) : Int) ≤ v ∧ v < (2 ^ (c.sw - 1) : Int) := by
  obtain ⟨x, -, rfl⟩ := Option.map_eq_some_iff.mp h
  exact signedBits_bounds c.sw x

/-- AMP bounds LOW_TABLE as well, which R234 populates from HIGH_TABLE. -/
theorem natAbs_le_amp_of_mem_wavetable {c : Config} (htables : TablesPopulated c) (hratio : c.lowRatioNum ≤ c.lowRatioDen)
    {amp : Level} {v : Int} (hv : v ∈ wavetable c amp) : v.natAbs ≤ c.amp := by
  obtain ⟨-, hlow, hbound⟩ := htables
  have hhigh : ∀ x ∈ c.highTable, x.natAbs ≤ c.amp := fun x hx => by
    obtain ⟨hlo, hhi⟩ := hbound x hx
    omega
  cases amp with
  | high => exact hhigh v hv
  | low =>
    have hv' : v ∈ populateLow c.lowRatioNum c.lowRatioDen c.highTable := hlow ▸ hv
    obtain ⟨x, hx, rfl⟩ := List.mem_map.mp hv'
    exact (natAbs_attenuate_le hratio x).trans (hhigh x hx)

/-- In a well-formed configuration the SW bits of a populated entry are the entry itself: AMP fits them (R9), and a
LOW_RATIO below 1 keeps LOW_TABLE within AMP. -/
theorem readWavetable_of_populated {c : Config} (hconfig : configError c = none) (htables : TablesPopulated c)
    (amp : Level) (i : Nat) : readWavetable c amp i = (wavetable c amp)[i]? := by
  obtain ⟨hparam, -⟩ := (configError_eq_none_iff c).mp hconfig
  obtain ⟨⟨-, -, -, -, hsw, -, hmax, -, hratio, -⟩, -⟩ := (paramRangeFails_eq_false_iff c).mp hparam
  have hkept : ∀ v ∈ wavetable c amp, signedBits c.sw v = v := fun v hv => by
    have habs := natAbs_le_amp_of_mem_wavetable htables hratio.le hv
    have hpow : ((2 ^ (c.sw - 1) : Nat) : Int) = 2 ^ (c.sw - 1) := by push_cast; rfl
    have hpos := Nat.two_pow_pos (c.sw - 1)
    exact signedBits_of_fits (by omega) (by omega) (by omega)
  rw [readWavetable]
  cases hentry : (wavetable c amp)[i]? with
  | none => rfl
  | some v => exact congrArg some (hkept v (List.mem_of_getElem? hentry))

/-- Settles O57: the sample is one read of the table amp_o names, and a read has SW bits. -/
theorem sampleFitsWidth : Obligations.SampleFitsWidth := by
  intro s u hvalid hloaded htick
  obtain ⟨amp, hamp, hread⟩ := execTick_sample hvalid ((exec_tick s).symm.trans htick)
  obtain ⟨hlo, hhi⟩ := readWavetable_bounds hread
  refine ⟨hlo, hhi, fun htables => ?_⟩
  rw [readWavetable_of_populated hloaded.config htables] at hread
  rw [hamp, ← hread]
  cases amp <;> rfl

end Sys2Proof.Machine
end

section
/-! The statements about the Batched Scheduler (45_scheduler.md). Under a well-formed CFG both dispatches answer, so each
kind of TICK is one equation: inside a second, at the phase query, at the second boundary. Those three equations count the
samples of a TICK, and counts of samples add up along a batch. -/

namespace Sys2Proof.Machine

/-! ### The dispatches of a well-formed configuration -/

/-- Where the calendar fields exist, a well-formed entry of either ROM answers: the fixed ones read nothing, and the others
read only the fields (R111). -/
theorem exists_exec_entry {i : Instr} {s : State} {f : Fields} (hwf : i.wellFormed = true) (hentry : i.format ≠ .cmd)
    (hf : fieldsAt s.cfg s.t = some f) : ∃ u, exec i s = .next u := by
  by_cases hfixed : i ∈ [Instr.mark, .fzero, .fone, .pfix0, .pfix1]
  · simp only [List.mem_cons, List.not_mem_nil, or_false] at hfixed
    rcases hfixed with rfl | rfl | rfl | rfl | rfl <;> exact ⟨_, rfl⟩
  · rcases exec_reads_fields hwf hentry hfixed s with ⟨g, hexec⟩ | ⟨g, hexec⟩
    · exact ⟨_, hexec.trans (runVar_of_fields g hf)⟩
    · exact ⟨_, hexec.trans (runPhaseBit_of_fields g hf)⟩

theorem exists_decode_readAmpRom {c : Config} (hconfig : configError c = none) (sec : Fin 60) :
    ∃ i, decode .ad (readAmpRom c sec) = .ok i := by
  obtain ⟨-, -, -, -, -, -, hdefined, -⟩ := (configError_eq_none_iff c).mp hconfig
  exact (adDefinedFails_eq_false_iff c).mp hdefined _ (Vector.mem_toList_iff.mpr (Vector.getElem_mem _))

theorem exists_decode_readPhRom {c : Config} (hconfig : configError c = none) (hB : c.proto = .B) (sec : Fin 60) :
    ∃ i, decode .pd (readPhRom c sec) = .ok i := by
  obtain ⟨-, -, -, -, -, -, -, -, -, -, hdefined, -⟩ := (configError_eq_none_iff c).mp hconfig
  exact (pdDefinedFails_eq_false_iff c).mp hdefined hB _ (Vector.mem_toList_iff.mpr (Vector.getElem_mem _))

/-- Check 7 keeps reserved words out of AMP_ROM, so Sym(T) is defined wherever ZONE fits (R96, R180). -/
theorem exists_dispatchAmp {s : State} (hconfig : configError s.cfg = none) (hzone : ZoneFits s.cfg s.t) :
    ∃ y, symbolAt s.cfg s.t = some y ∧ dispatchAmp s = .next { s.askZone with thr := readThreshold s.cfg y } := by
  obtain ⟨f, hf⟩ := exists_fieldsAt hzone
  obtain ⟨i, hword⟩ := exists_decode_readAmpRom hconfig f.sec
  obtain ⟨hwf, hformat, -⟩ := encode_of_decodeAmp hword
  obtain ⟨u, hexec⟩ := exists_exec_entry (s := s.askZone) hwf (by simp [hformat]) hf
  have hdispatch := (amplitudeDispatchRunsEntry s f i hf hword).trans hexec
  obtain ⟨y, hy, rfl⟩ := dispatchAmp_eq_next hdispatch
  exact ⟨y, hy, hdispatch⟩

/-- Check 11 keeps reserved words out of PH_ROM, so PH(T) is defined in protocol B wherever ZONE fits (R96, R200). -/
theorem exists_dispatchPhase {s : State} (hconfig : configError s.cfg = none) (hB : s.cfg.proto = .B)
    (hzone : ZoneFits s.cfg s.t) :
    ∃ b, phaseAt s.cfg s.t = some b ∧ dispatchPhase s = .next (withPhase s.askZone b) := by
  obtain ⟨f, hf⟩ := exists_fieldsAt hzone
  have hanswers : ∃ u, dispatchPhase s = .next u := by
    by_cases hwindow : inWindow f = true
    · exact ⟨_, dispatchPhase_of_inWindow hf hwindow⟩
    · obtain ⟨i, hword⟩ := exists_decode_readPhRom hconfig hB f.sec
      obtain ⟨hwf, hformat, -⟩ := encode_of_decodePhase hword
      rw [dispatchPhase_of_decode hf hwindow hword, runPhaseEntry_eq_exec hformat]
      exact exists_exec_entry hwf (by simp [hformat]) hf
  obtain ⟨u, hdispatch⟩ := hanswers
  obtain ⟨b, hb, rfl⟩ := dispatchPhase_eq_next hdispatch
  exact ⟨b, hb, hdispatch⟩

/-! ### An edge, HOLD and LOAD -/

/-- What decodes on the two bits of the `cmd` port is the command the block takes from them (R92, R93). -/
theorem fetch_of_decode {s : State} {i : Instr} (h : decode .cmd s.fetchWord = .ok i) : s.fetch = i := by
  rw [State.fetch]
  rcases decode_cmd_eq_ok h with ⟨hw, rfl⟩ | ⟨hw, rfl⟩ | ⟨hw, rfl⟩ | ⟨hw, rfl⟩ <;> rw [hw] <;> rfl

/-- Settles O5: with rst_n high a step is `exec` of what the edge fetches. -/
theorem stepRunsTheCommand : Obligations.StepRunsTheCommand := by
  intro s i hrst hword
  refine ⟨?_, nextEdge_idle s, nextEdge_driven s⟩
  rw [step, if_pos hrst, fetch_of_decode hword]

/-- Settles O38: 0b00 is HOLD's own word, and HOLD leaves the quiet edge. -/
theorem holdKeepsRegisters : Obligations.HoldKeepsRegisters := ⟨decode_encode (i := .hold) rfl, exec_hold⟩

theorem execLoad_of_configError {s : State} {r : CfgReason} (herr : s.cfgErr = false) (h : configError s.cfg = some r) :
    execLoad s = .next (raiseCfgError r s.quiet) := by
  simp [execLoad, herr, h]

theorem execLoad_of_sisRange {s : State} (herr : s.cfgErr = false) (h : configError s.cfg = none)
    (hsis : s.cfg.fs ≤ s.portLoadSis) : execLoad s = .next (raiseCfgError .loadSisRange s.quiet) := by
  simp [execLoad, herr, h, hsis]

theorem execLoad_of_accepted {s : State} (herr : s.cfgErr = false) (h : configError s.cfg = none)
    (hsis : s.portLoadSis < s.cfg.fs) : execLoad s = loadAccepted s.quiet := by
  simp [execLoad, herr, h, Nat.not_le.mpr hsis]

/-- Settles O40: each failing test raises CfgError on the quiet edge. -/
theorem loadTakesCfgError : Obligations.LoadTakesCfgError := fun s herr =>
  ⟨fun _ hreason => (exec_load s).trans (execLoad_of_configError herr hreason),
    fun hconfig hsis => (exec_load s).trans (execLoad_of_sisRange herr hconfig hsis)⟩

/-- Settles O39: the checks pass, and the dispatch at t0 answers. -/
theorem loadInitialises : Obligations.LoadInitialises := by
  refine fun s => ⟨portLoadSis_of_le, fun herr hconfig hsis hzone => ?_⟩
  obtain ⟨y, hy, hdispatch⟩ := exists_dispatchAmp (s := loadRegisters s.quiet) hconfig hzone
  refine ⟨y, hy, ?_⟩
  rw [exec_load, execLoad_of_accepted herr hconfig hsis, loadAccepted, hdispatch]
  rfl

/-! ### The parts of a TICK -/

/-- A loaded state has an entry behind every index modulo TLEN, with its table named as the statements name it. -/
theorem Loaded.exists_entry {s : State} (h : Loaded s) (htables : TablesSized s.cfg) (amp : Level) (n : Nat) :
    ∃ v, (if amp = .high then s.cfg.highTable else s.cfg.lowTable)[n % s.cfg.tlen]? = some v ∧
      readWavetable s.cfg amp (n % s.cfg.tlen) = some (signedBits s.cfg.sw v) := by
  obtain ⟨x, hread⟩ := exists_readWavetable htables amp (Nat.mod_lt n (Nat.zero_lt_of_lt h.wtiRange))
  have hentry := hread
  rw [readWavetable_eq] at hentry
  obtain ⟨v, hv, rfl⟩ := Option.map_eq_some_iff.mp hentry
  exact ⟨v, hv, hread⟩

/-- A valid TICK after its phase query: the sample at the registers the query leaves, then the boundary, if that is due. -/
theorem execTick_of_phaseQuery {s s1 : State} {v : Int} (hvalid : s.valid = true) (hquery : phaseQuery s.quiet = .next s1)
    (hread : readWavetable s1.cfg (ampLevel s1) (readIndex s1) = some v) :
    execTick s = boundaryIfDue (afterSample s1 v) := by
  have hemit : emitSample s1 = .next { s1 with sampleO := v, ampO := decide (ampLevel s1 = .high) } := by
    rw [emitSample, hread]
  simp only [execTick, hvalid, if_true, hquery, andThen_next, hemit, advanceIndexes_emit]

theorem phaseQuery_of_queriesPhase {s : State} (h : QueriesPhase s) : phaseQuery s = dispatchPhase s := if_pos h

theorem boundaryIfDue_of_not_due {s : State} (h : s.sis ≠ s.cfg.fs) : boundaryIfDue s = .next s := if_neg h

/-- The second boundary answers where T + 1 fits its width and ZONE fits there. -/
theorem exists_boundaryIfDue_of_due {s : State} (hdue : s.sis = s.cfg.fs) (hconfig : configError s.cfg = none)
    (ht : s.t + 1 < 2 ^ s.cfg.tw) (hzone : ZoneFits s.cfg (s.t + 1)) :
    ∃ y, symbolAt s.cfg (s.t + 1) = some y ∧
      boundaryIfDue s = .next (realign { (nextSecond s).askZone with thr := readThreshold s.cfg y }) := by
  obtain ⟨y, hy, hdispatch⟩ := exists_dispatchAmp (s := nextSecond s) hconfig hzone
  refine ⟨y, hy, ?_⟩
  rw [boundaryIfDue, if_pos hdue, secondBoundary, if_pos ht, hdispatch]
  rfl

/-- TLEN divides FS and PM_OFFSET and has a half, so no query falls on the last sample of a second (R236, R251). -/
theorem pmOffset_add_one_lt_fs {c : Config} (hconfig : configError c = none) (hB : c.proto = .B) :
    c.pmOffset + 1 < c.fs := by
  obtain ⟨hparam, -, hrot, halign, -⟩ := (configError_eq_none_iff c).mp hconfig
  obtain ⟨-, hprotoB⟩ := (paramRangeFails_eq_false_iff c).mp hparam
  obtain ⟨hoffset, -⟩ := hprotoB hB
  obtain ⟨hfs, hpm⟩ := (pmAlignFails_eq_false_iff c).mp halign hB
  have hhalf := (rotNotHalfCycleFails_eq_false_iff c).mp hrot hB
  refine lt_of_le_of_ne hoffset fun hlast => ?_
  have hone : c.tlen ∣ 1 :=
    (Nat.dvd_add_right (Nat.dvd_of_mod_eq_zero hpm)).mp (hlast ▸ Nat.dvd_of_mod_eq_zero hfs)
  have htlen : c.tlen = 1 := Nat.dvd_one.mp hone
  omega

/-! ### The three TICKs -/

/-- Settles O44: no query and no boundary, so the TICK is its sample. -/
theorem tickWithinSecond : Obligations.TickWithinSecond := by
  intro s hvalid hloaded htables hquery hlast amp
  obtain ⟨v, hv, hread⟩ := hloaded.exists_entry htables amp (s.wti + s.poff)
  refine ⟨v, hv, ?_⟩
  rw [exec_tick, execTick_of_not_queriesPhase hvalid hquery hread, boundaryIfDue_of_not_due hlast.ne]
  rfl

/-- Settles O45: the query writes POFF before the read, and the boundary is not due. -/
theorem tickQueriesPhase : Obligations.TickQueriesPhase := by
  intro s hvalid hloaded htables hquery hzone amp
  obtain ⟨hB, hoffset⟩ := hquery
  obtain ⟨ph, hph, hdispatch⟩ := exists_dispatchPhase (s := s.quiet) hloaded.config hB hzone
  obtain ⟨v, hv, hread⟩ := hloaded.exists_entry htables amp (s.wti + if ph then s.cfg.rot else 0)
  refine ⟨ph, v, hph, hv, ?_⟩
  have hlast : s.sis + 1 < s.cfg.fs := hoffset ▸ pmOffset_add_one_lt_fs hloaded.config hB
  have hasks : phaseQuery s.quiet = .next (withPhase s.quiet.askZone ph) :=
    (phaseQuery_of_queriesPhase (s := s.quiet) ⟨hB, hoffset⟩).trans hdispatch
  rw [exec_tick, execTick_of_phaseQuery hvalid hasks hread, boundaryIfDue_of_not_due hlast.ne]
  rfl

/-- Settles O46: the boundary is due after the sample, and it answers. -/
theorem tickCrossesSecond : Obligations.TickCrossesSecond := by
  intro s hvalid hloaded htables hquery hlast ht hzone amp
  obtain ⟨v, hv, hread⟩ := hloaded.exists_entry htables amp (s.wti + s.poff)
  obtain ⟨y, hy, hboundary⟩ := exists_boundaryIfDue_of_due
    (s := afterSample s.quiet (signedBits s.cfg.sw v)) hlast hloaded.config ht hzone
  refine ⟨v, y, hv, hy, ?_⟩
  rw [exec_tick, execTick_of_not_queriesPhase hvalid hquery hread, hboundary]
  rfl

/-! ### WTI along the TICKs -/

theorem execTick_keeps_valid {s u : State} (h : execTick s = .next u) : u.valid = s.valid := by
  rcases execTick_writes h with ⟨-, rfl⟩ | ⟨-, p, z, v, m, rfl, -, ⟨-, rfl⟩ | ⟨-, -, y, -, rfl⟩⟩ <;> rfl

/-- WTI and SIS after a valid TICK: both advance inside a second; the boundary clears SIS, and in protocol B alone WTI. -/
theorem execTick_indexes {s u : State} (hvalid : s.valid = true) (h : execTick s = .next u) :
    (u.sis = s.sis + 1 ∧ u.wti = (s.wti + 1) % s.cfg.tlen) ∨
    (u.sis = 0 ∧ u.wti = if s.cfg.proto = .B then 0 else (s.wti + 1) % s.cfg.tlen) := by
  rcases execTick_writes h with ⟨hrefused, -⟩ | ⟨-, p, z, v, m, rfl, -, ⟨-, rfl⟩ | ⟨-, -, y, -, rfl⟩⟩
  · rw [hvalid] at hrefused; cases hrefused
  · exact .inl ⟨rfl, rfl⟩
  · exact .inr ⟨rfl, rfl⟩

/-- Settles O56: WTI and SIS advance together and are 0 together; TLEN divides PM_OFFSET by check 4. -/
theorem protocolBKeepsAlignment : Obligations.ProtocolBKeepsAlignment := by
  intro s u hvalid hloaded hB haligned htick
  obtain ⟨-, -, -, halign, -⟩ := (configError_eq_none_iff s.cfg).mp hloaded.config
  obtain ⟨-, hpm⟩ := (pmAlignFails_eq_false_iff s.cfg).mp halign hB
  refine ⟨?_, fun ⟨_, hoffset⟩ => by rw [haligned, hoffset, hpm]⟩
  obtain ⟨hcfg, -⟩ := execTick_keeps_cfg_cfgErr htick
  rcases execTick_indexes hvalid htick with ⟨hsis, hwti⟩ | ⟨hsis, hwti⟩
  · rw [hwti, hsis, hcfg, haligned, Nat.mod_add_mod]
  · rw [hwti, hsis, if_pos hB, Nat.zero_mod]

theorem execTick_wti_of_protoA {s u : State} (hvalid : s.valid = true) (hA : s.cfg.proto = .A)
    (h : execTick s = .next u) : u.wti = (s.wti + 1) % s.cfg.tlen := by
  rcases execTick_indexes hvalid h with ⟨-, hwti⟩ | ⟨-, hwti⟩
  · exact hwti
  · rwa [if_neg (by simp [hA])] at hwti

/-- Settles O60: one TICK of protocol A adds one to WTI modulo TLEN, at a boundary too. -/
theorem protocolACarrierRunsOn : Obligations.ProtocolACarrierRunsOn := by
  intro n
  induction n with
  | zero =>
    intro s u _ hloaded _ hbatch
    obtain rfl := Host.Outcome.next.inj hbatch
    exact (Nat.mod_eq_of_lt hloaded.wtiRange).symm
  | succ n ih =>
    intro s u hvalid hloaded hA hbatch
    obtain ⟨s1, htick, hrest⟩ := andThen_eq_next.mp hbatch
    obtain ⟨hcfg, -⟩ := execTick_keeps_cfg_cfgErr htick
    have hwti := execTick_wti_of_protoA hvalid hA htick
    have hlater := ih s1 u ((execTick_keeps_valid htick).trans hvalid) (hloaded.execTick htick) (hcfg ▸ hA) hrest
    rw [hlater, hwti, hcfg, Nat.mod_add_mod, Nat.add_assoc, Nat.add_comm 1 n]

/-! ### Counting samples -/

/-- What `n` samples make of the loaded state `s`, sample and boundary counts carried over (R254 to R256). -/
structure BatchEnds (n : Nat) (s u : State) : Prop where
  valid : u.valid = true
  loaded : Loaded u
  cfg : u.cfg = s.cfg
  t : u.t = s.t + (s.sis + n) / s.cfg.fs
  sis : u.sis = (s.sis + n) % s.cfg.fs

/-- T fits its width, and ZONE fits, at every second that `n` samples reach from `s` (R21, R112). -/
structure BatchFits (n : Nat) (s : State) : Prop where
  tWidth : s.t + (s.sis + n) / s.cfg.fs < 2 ^ s.cfg.tw
  zone : ∀ k, k ≤ (s.sis + n) / s.cfg.fs → ZoneFits s.cfg (s.t + k)

/-- Dividing what a first division leaves over carries on the count. -/
theorem div_add_mod_add_div (a n d : Nat) : a / d + (a % d + n) / d = (a + n) / d := by
  rcases Nat.eq_zero_or_pos d with rfl | hd
  · simp
  · calc a / d + (a % d + n) / d = (d * (a / d) + (a % d + n)) / d := (Nat.mul_add_div hd _ _).symm
      _ = (a + n) / d := by rw [← Nat.add_assoc, Nat.div_add_mod]

theorem BatchEnds.refl {s : State} (hvalid : s.valid = true) (h : Loaded s) : BatchEnds 0 s s where
  valid := hvalid
  loaded := h
  cfg := rfl
  t := by rw [Nat.add_zero, Nat.div_eq_of_lt h.sisRange, Nat.add_zero]
  sis := (Nat.mod_eq_of_lt h.sisRange).symm

theorem BatchEnds.trans {m n : Nat} {s v u : State} (h : BatchEnds m s v) (h' : BatchEnds n v u) :
    BatchEnds (m + n) s u where
  valid := h'.valid
  loaded := h'.loaded
  cfg := h'.cfg.trans h.cfg
  t := by rw [h'.t, h.cfg, h.t, h.sis, Nat.add_assoc, div_add_mod_add_div, Nat.add_assoc]
  sis := by rw [h'.sis, h.cfg, h.sis, Nat.mod_add_mod, Nat.add_assoc]

theorem BatchFits.mono {m n : Nat} {s : State} (hle : m ≤ n) (h : BatchFits n s) : BatchFits m s := by
  have hdiv : (s.sis + m) / s.cfg.fs ≤ (s.sis + n) / s.cfg.fs := Nat.div_le_div_right (Nat.add_le_add_left hle _)
  exact ⟨(Nat.add_le_add_left hdiv _).trans_lt h.tWidth, fun k hk => h.zone k (hk.trans hdiv)⟩

/-- What fits a batch fits the rest of it. -/
theorem BatchFits.rest {m n : Nat} {s v : State} (h : BatchFits (m + n) s) (hends : BatchEnds m s v) :
    BatchFits n v := by
  have hcount := div_add_mod_add_div (s.sis + m) n s.cfg.fs
  rw [Nat.add_assoc s.sis] at hcount
  constructor
  · rw [hends.cfg, hends.t, hends.sis, Nat.add_assoc, hcount]
    exact h.tWidth
  · intro k hk
    rw [hends.cfg, hends.sis] at hk
    rw [hends.cfg, hends.t, Nat.add_assoc]
    exact h.zone _ (hcount ▸ Nat.add_le_add_left hk _)

/-- A TICK is a batch of one sample, at the level of that sample: the three TICKs in turn (R248, R255). -/
theorem exists_exec_tick {s : State} (hvalid : s.valid = true) (hloaded : Loaded s) (htables : TablesSized s.cfg)
    (hfits : BatchFits 1 s) :
    ∃ u, exec .tick s = .next u ∧ BatchEnds 1 s u ∧ u.ampO = decide (ampLevel s = .high) := by
  have hinside : s.sis + 1 < s.cfg.fs → s.t = s.t + (s.sis + 1) / s.cfg.fs ∧ s.sis + 1 = (s.sis + 1) % s.cfg.fs :=
    fun hlast => ⟨by rw [Nat.div_eq_of_lt hlast, Nat.add_zero], (Nat.mod_eq_of_lt hlast).symm⟩
  by_cases hquery : QueriesPhase s
  · obtain ⟨hB, hoffset⟩ := hquery
    obtain ⟨ht, hsis⟩ := hinside (hoffset ▸ pmOffset_add_one_lt_fs hloaded.config hB)
    obtain ⟨ph, v, -, -, htick⟩ :=
      tickQueriesPhase s hvalid hloaded htables ⟨hB, hoffset⟩ (hfits.zone 0 (Nat.zero_le _))
    exact ⟨_, htick, ⟨hvalid, hloaded.execTick htick, rfl, ht, hsis⟩, rfl⟩
  · have hle : s.sis + 1 ≤ s.cfg.fs := hloaded.sisRange
    rcases hle.lt_or_eq with hlast | hlast
    · obtain ⟨ht, hsis⟩ := hinside hlast
      obtain ⟨v, -, htick⟩ := tickWithinSecond s hvalid hloaded htables hquery hlast
      exact ⟨_, htick, ⟨hvalid, hloaded.execTick htick, rfl, ht, hsis⟩, rfl⟩
    · have hpos : 0 < s.cfg.fs := Nat.zero_lt_of_lt hloaded.sisRange
      have hone : (s.sis + 1) / s.cfg.fs = 1 := by rw [hlast, Nat.div_self hpos]
      have hzero : 0 = (s.sis + 1) % s.cfg.fs := by rw [hlast, Nat.mod_self]
      obtain ⟨v, y, -, -, htick⟩ := tickCrossesSecond s hvalid hloaded htables hquery hlast
        (hone ▸ hfits.tWidth) (hfits.zone 1 hone.ge)
      exact ⟨_, htick, ⟨hvalid, hloaded.execTick htick, rfl, by rw [hone], hzero⟩, rfl⟩

/-! ### Batches -/

/-- A batch that fits answers, and its end counts its samples (R254, R256). -/
theorem exists_advance (n : Nat) {s : State} (hvalid : s.valid = true) (hloaded : Loaded s) (htables : TablesSized s.cfg)
    (hfits : BatchFits n s) : ∃ u, advance n s = .next u ∧ BatchEnds n s u := by
  induction n generalizing s with
  | zero => exact ⟨s, rfl, .refl hvalid hloaded⟩
  | succ n ih =>
    obtain ⟨s1, htick, hfirst, -⟩ := exists_exec_tick hvalid hloaded htables (hfits.mono (Nat.le_add_left 1 n))
    rw [Nat.add_comm] at hfits
    obtain ⟨u, hrest, hends⟩ := ih hfirst.valid hfirst.loaded (hfirst.cfg ▸ htables) (hfits.rest hfirst)
    exact ⟨u, andThen_eq_next.mpr ⟨s1, htick, hrest⟩, Nat.add_comm 1 n ▸ hfirst.trans hends⟩

/-- Settles O58: a batch is its TICKs, and sample counts add up. -/
theorem batchCrossesBoundaries : Obligations.BatchCrossesBoundaries := by
  intro n s hvalid hloaded htables ht hzone
  obtain ⟨u, hbatch, hends⟩ := exists_advance n hvalid hloaded htables ⟨ht, hzone⟩
  exact ⟨u, hbatch, hends.valid, hends.loaded, hends.cfg, hends.t, hends.sis⟩

/-- A batch may be taken off at its last TICK, where `advance` takes it off at its first. -/
theorem advance_succ_of_last {n : Nat} {s v u : State} (hbatch : advance n s = .next v) (hlast : exec .tick v = .next u) :
    advance (n + 1) s = .next u := by
  induction n generalizing s with
  | zero =>
    obtain rfl := Host.Outcome.next.inj hbatch
    exact andThen_eq_next.mpr ⟨u, hlast, rfl⟩
  | succ n ih =>
    obtain ⟨s1, hfirst, hrest⟩ := andThen_eq_next.mp hbatch
    exact andThen_eq_next.mpr ⟨s1, hfirst, ih hrest⟩

/-- CFG and T fix THR in a loaded state (R35), so it is the same throughout a second. -/
theorem Loaded.thr_eq {s u : State} (h : Loaded s) (h' : Loaded u) (hcfg : u.cfg = s.cfg) (ht : u.t = s.t) :
    u.thr = s.thr := by
  obtain ⟨y, hy, hthr⟩ := h.threshold
  obtain ⟨y', hy', hthr'⟩ := h'.threshold
  rw [hcfg, ht, hy] at hy'
  obtain rfl := Option.some.inj hy'
  rw [hthr, hthr', hcfg]

/-- Settles O59: `k` samples lead to SIS = k in the same second, and the next TICK shows the level there. -/
theorem secondShape : Obligations.SecondShape := by
  intro k s hvalid hloaded htables hsis hk ht hzone0 hzone1
  have hfits : BatchFits (k + 1) s := by
    have hle : (s.sis + (k + 1)) / s.cfg.fs ≤ 1 := by
      rw [hsis, Nat.zero_add]
      exact Nat.div_le_of_le_mul (by omega)
    refine ⟨by omega, fun j hj => ?_⟩
    rcases Nat.le_one_iff_eq_zero_or_eq_one.mp (hj.trans hle) with rfl | rfl
    · exact hzone0
    · exact hzone1
  obtain ⟨v, hbatch, hends⟩ := exists_advance k hvalid hloaded htables (hfits.mono (Nat.le_succ k))
  have hvsis : v.sis = k := by rw [hends.sis, hsis, Nat.zero_add, Nat.mod_eq_of_lt hk]
  have hvt : v.t = s.t := by rw [hends.t, hsis, Nat.zero_add, Nat.div_eq_of_lt hk, Nat.add_zero]
  have hvthr : v.thr = s.thr := hloaded.thr_eq hends.loaded hends.cfg hvt
  obtain ⟨u, htick, -, hamp⟩ := exists_exec_tick hends.valid hends.loaded (hends.cfg ▸ htables) (hfits.rest hends)
  refine ⟨u, advance_succ_of_last hbatch htick, ?_⟩
  rw [hamp, decide_eq_true_iff, ampLevel, hvsis, hvthr, hends.cfg]

end Sys2Proof.Machine
end

section
/-! The statements about CfgError (60_exceptions.md). The list of checks is in the order of their codes, so a smaller code is
an earlier check. A TICK is a batch of one sample, which reaches at most the next second. -/

namespace Sys2Proof.Machine

/-! ### The reason of a CfgError -/

/-- R272: `configChecks` lists the checks 1 to 13 in their order. -/
theorem configChecks_codes (c : Config) : (configChecks c).map (fun p => p.1.code) = List.range' 1 13 := rfl

theorem configChecks_pairwise_code_lt (c : Config) : (configChecks c).Pairwise fun p q => p.1.code < q.1.code :=
  List.pairwise_map.mp (configChecks_codes c ▸ List.pairwise_lt_range')

/-- In a list ordered by codes, what has a smaller code than the first failure stands before it, so it passes. -/
theorem passes_of_code_lt_firstFailure {l : List (CfgReason × Bool)} {r : CfgReason}
    (hsorted : l.Pairwise fun p q => p.1.code < q.1.code) (h : firstFailure l = some r) :
    ∀ p ∈ l, p.1.code < r.code → p.2 = false := by
  induction l with
  | nil => cases h
  | cons head rest ih =>
    obtain ⟨r0, failed⟩ := head
    obtain ⟨hhead, hrest⟩ := List.pairwise_cons.mp hsorted
    intro p hp hlt
    cases failed with
    | true =>
      obtain rfl : r0 = r := Option.some.inj h
      rcases List.mem_cons.mp hp with rfl | hp
      · exact absurd hlt (Nat.lt_irrefl _)
      · exact absurd hlt (Nat.lt_asymm (hhead p hp))
    | false =>
      rcases List.mem_cons.mp hp with rfl | hp
      · rfl
      · exact ih hrest h p hp hlt

/-- Settles O42: the reason is of a failing check of the list, and smaller codes stand before it. -/
theorem firstFailingCheckReported : Obligations.FirstFailingCheckReported := fun c _ h =>
  ⟨firstFailure_mem h, passes_of_code_lt_firstFailure (configChecks_pairwise_code_lt c) h⟩

/-! ### TICK in a loaded state -/

/-- Samples that end no later than the second boundary reach this second and the next (R21, R112). -/
theorem batchFits_within_second {n : Nat} {s : State} (hend : s.sis + n ≤ s.cfg.fs) (ht : s.t + 1 < 2 ^ s.cfg.tw)
    (hzone0 : ZoneFits s.cfg s.t) (hzone1 : ZoneFits s.cfg (s.t + 1)) : BatchFits n s := by
  have hle : (s.sis + n) / s.cfg.fs ≤ 1 := Nat.div_le_of_le_mul (by rwa [Nat.mul_one])
  refine ⟨(Nat.add_le_add_left hle s.t).trans_lt ht, fun k hk => ?_⟩
  rcases Nat.le_one_iff_eq_zero_or_eq_one.mp (hk.trans hle) with rfl | rfl
  · exact hzone0
  · exact hzone1

/-- Settles O48: SIS is below FS, so the one sample of a TICK ends within the second. -/
theorem tickNeverFails : Obligations.TickNeverFails := by
  intro s hvalid hloaded htables ht hzone0 hzone1
  obtain ⟨u, htick, hends, -⟩ :=
    exists_exec_tick hvalid hloaded htables (batchFits_within_second hloaded.sisRange ht hzone0 hzone1)
  exact ⟨u, htick, hends.valid⟩

end Sys2Proof.Machine
end

section
/-! The statement about hardware reset (70_reset_and_hazards.md R300). -/

namespace Sys2Proof.Machine

/-- R277, R300: rst_n low wins, so the decoded command does not matter. -/
theorem step_of_rstN_low {s : State} (hlow : s.nextEdge.pins.rstN = false) :
    step s = .next (hardwareReset s.nextEdge) :=
  if_neg (Bool.eq_false_iff.mp hlow)

/-- A free value of T is cut to the width of T (R21; log entry 7). -/
theorem hardwareReset_t_lt (s : State) : (hardwareReset s).t < 2 ^ s.cfg.tw :=
  Nat.mod_lt _ (Nat.two_pow_pos _)

/-- cont_o is constantly 1 (R258). -/
@[simp] theorem contO_eq_true (s : State) : s.contO = true := rfl

/-- Settles O6: the edge with rst_n low is a hardware reset of the state with the edge taken, and taking the edge keeps CFG. -/
theorem lowResetWins : Obligations.LowResetWins := by
  intro s hlow
  have ht : (hardwareReset s.nextEdge).t < 2 ^ s.cfg.tw := nextEdge_cfg s ▸ hardwareReset_t_lt s.nextEdge
  exact ⟨hardwareReset s.nextEdge, step_of_rstN_low hlow, hardwareReset_valid _, hardwareReset_cfgErr _,
    hardwareReset_sampleO _, hardwareReset_ampO _, contO_eq_true _, ht,
    (hardwareReset_cfg _).trans (nextEdge_cfg s), hardwareReset_stimulus _, hardwareReset_pins _⟩

end Sys2Proof.Machine
end
